-- ==== Sys2Proof/Word.lean ====
section
/-! DEFINITION. The word types of the block (10_state.md R21, 30_encoding.md R81) and the closed sets of names the
spec gives: host registers, measurement kinds, outcome codes, boot requirements, the events of a run, the tick phase. -/

namespace Sys2Proof

/-- One byte: CRC_CHK, CRC_REM, a bus byte, an availableCount (R21, R55). -/
abbrev Byte := BitVec 8

/-- The host data path, 16 bits (R12, R53). -/
abbrev Data := BitVec 16

/-- A host transaction word, 20 bits (R81). -/
abbrev Htw := BitVec 20

/-- A device address on the bus, 7 bits (R11, R55). -/
abbrev BusAddr := BitVec 7

/-- The eight host registers, in the order of their 3-bit indices 0 to 7 (R21, R50). -/
inductive Reg where
  | cmd | status | crcData | crcChk | crcRem | result | attempts | seq
  deriving DecidableEq, Repr

/-- KIND: which measurement (R22): bit 0 is humidity, bit 1 temperature. -/
inductive Kind where
  | humidity | temperature
  deriving DecidableEq, Repr

/-- RESULT_CODE: the outcome of the last measurement (R22, R27). -/
inductive ResultCode where
  | none | ok | timeout | crcFail
  deriving DecidableEq, Repr

/-- What the environment owes before the first MEAS_* (70_reset_and_hazards.md R214), in the rule's order (1) to (4). -/
inductive BootRequirement where
  | busInitialised | busExclusive | parametersFixed | timeSourceStarted
  deriving DecidableEq, Repr

/-- What can happen next in a run (R9, R63, R210, R215): a Host step, a Sequencer step, a Time Source tick, the reset
input, or the environment meeting a boot requirement. The Bus Adapter answers inside a Sequencer step and has no event
of its own (R56). -/
inductive Event where
  | host | sequencer | tick | reset
  | environment (met : BootRequirement)
  deriving DecidableEq, Repr, Inhabited

/-- The values of the parameter TICK_PHASE (R11, U11). -/
inductive TickPhase where
  | aligned | freeRunning
  deriving DecidableEq, Repr, Inhabited

end Sys2Proof
end

