-- ==== Sys2Proof/Syntax.lean ====
section
/-! DEFINITION. The instructions: one constructor per row of spec/opcode_table.json. -/

namespace Sys2Proof

/-- The six instructions of the opcode table (R2: the host's register transactions and the command values).
`wr .cmd data` stands for a CMD write whose value `data[7:0]` is reserved (R84, R108); the CMD writes of a defined
value are the four command constructors (R83, R94). -/
inductive Instr where
  /-- RD: RegRead of a register (R51). -/
  | rd (reg : Reg)
  /-- WR: RegWrite of a register (R52). -/
  | wr (reg : Reg) (data : Data)
  /-- NOP: CMD = 0x00 (R105). -/
  | nop
  /-- VERIFY: CMD = 0x01 (R106). -/
  | verify
  /-- MEAS_RH: CMD = 0x02 (R132). -/
  | measRh
  /-- MEAS_T: CMD = 0x03 (R133). -/
  | measT
  deriving DecidableEq, Repr

end Sys2Proof
end

