-- ==== Sys2Proof/WellFormed.lean ====
section
/-! DEFINITION. Which instructions are the reading of some host transaction word. -/

namespace Sys2Proof

/-- One check: a CMD write of a defined value (OP = data[7:0] in 0x00 to 0x03) is written with its own command
constructor, so `wr .cmd` carries a reserved value (R83, R84). Every other term is well formed: all eight register
indices and all data values are defined (R50, R84). -/
def Instr.wf : Instr → Bool
  | .rd _ => true
  | .wr .cmd data => decide (4 ≤ (data.setWidth 8).toNat)
  | .wr _ _ => true
  | .nop => true
  | .verify => true
  | .measRh => true
  | .measT => true

end Sys2Proof
end

