-- ==== Sys2Proof/Decode.lean ====
section
/-! DEFINITION. The decoder of host transaction words (30_encoding.md R81 to R84, R91), total on all 20-bit words, the
reader of table words that rejects by name, and the encoder, written from the same tables. -/

namespace Sys2Proof

/-- The register of a 3-bit index (R21): every index decodes to a register (R50). -/
def Reg.ofIndex (idx : BitVec 3) : Reg :=
  match idx.toNat with
  | 0 => .cmd
  | 1 => .status
  | 2 => .crcData
  | 3 => .crcChk
  | 4 => .crcRem
  | 5 => .result
  | 6 => .attempts
  | _ => .seq

/-- The 3-bit index of a register (R21). -/
def Reg.index : Reg → BitVec 3
  | .cmd => 0
  | .status => 1
  | .crcData => 2
  | .crcChk => 3
  | .crcRem => 4
  | .result => 5
  | .attempts => 6
  | .seq => 7

/-- CMD8 (R82, R83): the command of an OP byte, decoded by its whole value; none for a reserved value (R84). -/
def decodeCmd8 (op : Byte) : Option Instr :=
  if op = 0x00 then some .nop
  else if op = 0x01 then some .verify
  else if op = 0x02 then some .measRh
  else if op = 0x03 then some .measT
  else none

/-- WE, bit 19 of an HTW (R81). -/
def htwWe (w : Htw) : Bool := w.getLsbD 19

/-- IDX, bits 18 to 16 of an HTW (R81). -/
def htwIdx (w : Htw) : BitVec 3 := w.extractLsb' 16 3

/-- DATA, bits 15 to 0 of an HTW (R81). -/
def htwData (w : Htw) : Data := w.extractLsb' 0 16

/-- A RegWrite (R91): of CMD, the command of DATA[7:0] (DATA[15:8] is ignored, R52, R105), or the write itself when
the value is reserved; of any other register, the write. DEDUCED (log 12). -/
def decodeWrite (reg : Reg) (data : Data) : Instr :=
  match reg with
  | .cmd => (decodeCmd8 (data.setWidth 8)).getD (.wr .cmd data)
  | r => .wr r data

/-- The decoding procedure of R91, total on every 20-bit word: WE = 0 is a RegRead whose DATA is ignored, WE = 1 a
RegWrite. -/
def decode (w : Htw) : Instr :=
  if htwWe w then decodeWrite (Reg.ofIndex (htwIdx w)) (htwData w) else .rd (Reg.ofIndex (htwIdx w))

/-- Why a table word is no instruction. -/
inductive DecodeError where
  /-- No format of the opcode table has this width: CMD8 has 8 bits, HTW 20 (24 in whole bytes). -/
  | noSuchFormat
  /-- A bit is set above the format's width. -/
  | bitsAboveFormat
  deriving DecidableEq, Repr

/-- The HTW that carries a CMD8 value: `wr CMD, 0x00op` (R82, R94). -/
def htwOfCmd8 (op : Byte) : Htw := 0x80000#20 ||| op.setWidth 20

/-- A word numbered as the opcode table numbers it, as a host transaction word: 8 bits are a CMD8 value, carried by a
CMD write; 20 bits, or 24 in whole bytes, are an HTW. DESIGN CHOICE (log 13). -/
def htwOfTable (nbits w : Nat) : Except DecodeError Htw :=
  if nbits = 8 then
    if w < 2 ^ 8 then .ok (htwOfCmd8 (BitVec.ofNat 8 w)) else .error .bitsAboveFormat
  else if nbits = 20 ∨ nbits = 24 then
    if w < 2 ^ 20 then .ok (BitVec.ofNat 20 w) else .error .bitsAboveFormat
  else .error .noSuchFormat

/-- The instruction the decoder reads from a table word, or the reason it is none. -/
def decodeTable (nbits w : Nat) : Except DecodeError Instr :=
  match htwOfTable nbits w with
  | .ok h => .ok (decode h)
  | .error e => .error e

/-- The instruction the decoder reads from a table word (none where it refuses). -/
def decodeTableWord (nbits w : Nat) : Option Instr :=
  match decodeTable nbits w with
  | .ok i => some i
  | .error _ => none

/-- An HTW from its three fields (R81). -/
def htwOf (we : Bool) (idx : BitVec 3) (data : Data) : Htw := BitVec.ofBool we ++ idx ++ data

/-- The host transaction word of an instruction (R81, R94); a read's DATA is written as 0 by convention, and so is a
command's DATA[15:8]. -/
def encode : Instr → Htw
  | .rd reg => htwOf false reg.index 0
  | .wr reg data => htwOf true reg.index data
  | .nop => htwOf true Reg.cmd.index 0x0000
  | .verify => htwOf true Reg.cmd.index 0x0001
  | .measRh => htwOf true Reg.cmd.index 0x0002
  | .measT => htwOf true Reg.cmd.index 0x0003

end Sys2Proof
end

