-- ==== Sys2Proof/Config.lean ====
section
/-! DEFINITION. What the spec leaves to the implementation or the environment (00_scope.md R11): constants without a
body, of which no proof can see the value. The parameters the source fixes (R10) are in Machine/Params.lean. -/

namespace Sys2Proof.Config

/-- DEV_ADDR, the fixed 7-bit device address (R11, U2). Log 5. -/
opaque devAddr : BusAddr

/-- CMD_TRIG_RH, the humidity trigger byte (R11, U2). Log 5. -/
opaque cmdTrigRh : Byte

/-- How far CMD_TRIG_T lies above CMD_TRIG_RH + 1, in 0..254: every pair of distinct bytes is of this form, so
CMD_TRIG_RH ≠ CMD_TRIG_T (R11) holds and nothing else is known. Log 5. -/
opaque trigGap : Fin 255

/-- CMD_TRIG_T, the temperature trigger byte (R11, U2), distinct from CMD_TRIG_RH. Log 5. -/
def cmdTrigT : Byte := cmdTrigRh + 1 + BitVec.ofNat 8 trigGap.val

/-- TIME_UNIT, the physical length of one tick (R11, U3), in no named unit; no rule depends on it. Log 6. -/
opaque timeUnit : Nat

/-- TICK_PHASE (R11, U11): whether ticks are aligned to the entry into POLL_WAIT; the delay is exactly 10 ticks
either way. Log 6. -/
opaque tickPhase : TickPhase

/-- Free value: the next event of a run whose schedule is exhausted (R63: any order). Log 1. -/
opaque freeEvent : Nat → Event

/-- Free value: an answer of `requestBytes` no input list gives (R56: any availableCount in 0..255). Log 3. -/
opaque freeAvailable : Nat → Byte

/-- Free value: an answer of `readByte` no input list gives (R56: any byte). Log 3. -/
opaque freeByte : Nat → Byte

/-- BUS_AFTER_RESET (R11, R211, U9): the coming answers of `requestBytes` after a reset that interrupts a
measurement, any list. Log 7. -/
opaque availAfterReset : Nat → List Byte

/-- BUS_AFTER_RESET (R11, R211, U9): the coming answers of `readByte` after a reset that interrupts a measurement,
any list. Log 7. -/
opaque bytesAfterReset : Nat → List Byte

/-- Free value: SEQ_RAW after a reset event (R36, R210: unspecified). Log 9. -/
opaque seqRawAfterReset : Nat → Data

/-- Free value: SEQ_CHK after a reset event (R36, R210: unspecified). Log 9. -/
opaque seqChkAfterReset : Nat → Byte

/-- Free value: what `bz` / `bnz` test when the Host has performed no `rd` yet (R92 states no value). Log 15. -/
opaque unreadValue : Nat → Data

end Sys2Proof.Config
end

