-- ==== Sys2Proof/Machine/Params.lean ====
section
/-! DEFINITION. The parameters the source fixes (00_scope.md R10), the codes of SEQ_STATE, KIND and RESULT_CODE
(10_state.md R22, R29). -/

namespace Sys2Proof.Machine

/-- GEN, the generator x⁸+x⁵+x⁴+1 in the top of a 24-bit window (R10, R101). -/
def gen : BitVec 24 := 0x988000

/-- READ_COUNT, the bytes of one measurement read (R10). -/
def readCount : Byte := 3

/-- POLL_DELAY, the ticks before each poll (R10). -/
def pollDelay : BitVec 4 := 10

/-- MAX_ATTEMPTS, the poll bound (R10). -/
def maxAttempts : BitVec 4 := 10

/-- STATUS_MASK, which clears the two status bits (R10). -/
def statusMask : Data := 0xFFFC

/-- SENT_TIMEOUT, 998 (R10, R27). -/
def sentTimeout : Data := 998

/-- SENT_CRC, 999 (R10, R27). -/
def sentCrc : Data := 999

/-- SEQ_STATE 0, no measurement running (R29). -/
def seqIdle : BitVec 4 := 0
/-- SEQ_STATE 1, a measurement accepted but not yet triggered (R29). -/
def seqTrigger : BitVec 4 := 1
/-- SEQ_STATE 2, `CommandSent` (R29). -/
def seqCmdSent : BitVec 4 := 2
/-- SEQ_STATE 3, polling, waiting the inter-poll delay (R29). -/
def seqPollWait : BitVec 4 := 3
/-- SEQ_STATE 4, polling, poll due (R29). -/
def seqPollReq : BitVec 4 := 4
/-- SEQ_STATE 5, `DataReady` (R29). -/
def seqDataReady : BitVec 4 := 5
/-- SEQ_STATE 6, `CRCCheck` (R29). -/
def seqCrcCheck : BitVec 4 := 6

/-- The KIND bit (R22). -/
def kindBit : Kind → BitVec 1
  | .humidity => 0
  | .temperature => 1

/-- The RESULT_CODE bits (R22). -/
def resultCodeBits : ResultCode → BitVec 2
  | .none => 0b00
  | .ok => 0b01
  | .timeout => 0b10
  | .crcFail => 0b11

end Sys2Proof.Machine
end

