-- ==== Sys2Proof/Machine/State.lean ====
section
/-! DEFINITION. The state of the block and of the agents around it, as plain data; the reasons a step stops; reset. -/

namespace Sys2Proof.Machine

/-- One operation of the Host's program (R92): a transaction on the block, or a branch of the Host itself. A branch
target is a place in the program (log 14). -/
inductive HostOp where
  /-- A transaction, by its word (R81). -/
  | txn (w : Htw)
  /-- `bz`: branch when the value of the last `rd`, ANDed with the mask, is zero. -/
  | bz (target : Nat) (mask : Data)
  /-- `bnz`: branch when it is not zero. -/
  | bnz (target : Nat) (mask : Data)
  deriving DecidableEq, Repr

/-- One Bus Adapter primitive the Sequencer has issued, with its answer (R55, 95_test_vectors.md section 3). -/
inductive BusEvent where
  | startTransaction (addr : BusAddr)
  | writeByte (byte : Byte)
  | endTransaction
  | requestBytes (addr : BusAddr) (count : Byte) (answer : Byte)
  | readByte (answer : Byte)
  deriving DecidableEq, Repr

/-- Why the machine stops. -/
inductive Fault where
  /-- A Sequencer step in SEQ_STATE 7 to 15 (U16: the treatment is `stuck`; no rule writes these values). Raised by
  `sequencerStep` alone. Safe: no state the rules reach has such a value (log 10). -/
  | unnamedSeqState
  deriving DecidableEq, Repr

/-- Why an instruction has no meaning, or none in this state. -/
inductive Refusal where
  /-- A MEAS_RH or MEAS_T before the environment has met all the boot requirements (R214: outside every rule; U12:
  `refuse`). Raised by `measAccept` alone. Safe: the spec gives such a run no behaviour (log 11). -/
  | bootRequirementsUnmet
  /-- An arm of `exec` without a meaning would answer this; no arm does. Safe. -/
  | notModelled (mnemonic : String)
  deriving DecidableEq, Repr

/-- Which boot requirements the environment has met (70_reset_and_hazards.md R214). Log 11. -/
structure Boot where
  /-- (1) The bus and the Bus Adapter are initialised. -/
  busInitialised : Bool
  /-- (2) The block has the bus to itself for the whole of each measurement. -/
  busExclusive : Bool
  /-- (3) DEV_ADDR, CMD_TRIG_RH and CMD_TRIG_T are those of the sensor. -/
  parametersFixed : Bool
  /-- (4) The Time Source is started. -/
  timeSourceStarted : Bool
  deriving DecidableEq, Repr

/-- The state: the block's own (10_state.md R20), then the environment's that its steps read or write. -/
@[ext]
structure State where
  /-- SEQ_STATE (R29). -/
  seqState : BitVec 4
  /-- KIND (R22). -/
  kind : Kind
  /-- RESULT_CODE (R22). -/
  resultCode : ResultCode
  /-- CRC_PASS (R22). -/
  crcPass : Bool
  /-- CMD_ERR (R22, R24). -/
  cmdErr : Bool
  /-- ADAPTER_ERR (R22, R24). -/
  adapterErr : Bool
  /-- CRC_VALID (R22). -/
  crcValid : Bool
  /-- CRC_DATA (R25). -/
  crcData : Data
  /-- CRC_CHK (R25). -/
  crcChk : Byte
  /-- CRC_REM (R26). -/
  crcRem : Byte
  /-- RESULT (R27). -/
  result : Data
  /-- ATTEMPT (R28). -/
  attempt : BitVec 4
  /-- DELAY (R32). -/
  delay : BitVec 4
  /-- SEQ_RAW (R33). -/
  seqRaw : Data
  /-- SEQ_CHK (R33). -/
  seqChk : Byte
  /-- The boot requirements the environment has met (R214, R215). Log 11. -/
  boot : Boot
  /-- The Host's program (R64, R92). Log 14. -/
  hostProgram : List HostOp
  /-- The Host's place in its program (R64). Log 14. -/
  hostPc : Nat
  /-- The value of the Host's last `rd` (R51, R92); none before the first. Log 14. -/
  hostLast : Option Data
  /-- The coming events of the run, first first (R63). Log 1. -/
  schedule : List Event
  /-- The coming answers of `requestBytes` (R56). Log 3. -/
  availAnswers : List Byte
  /-- The coming answers of `readByte` (R56). Log 3. -/
  byteAnswers : List Byte
  /-- The bus primitives issued so far, oldest first (R135, R147). Log 16. -/
  busTrace : List BusEvent
  /-- The next free value's number. Log 17. -/
  freeIndex : Nat
  deriving DecidableEq, Repr

/-- The machine right after power-on: the block as R36 says (SEQ_RAW and SEQ_CHK, which R36 leaves unspecified, are
zero: DESIGN CHOICE, log 8), in an environment that has met the boot requirements (DEDUCED, log 11: R132's and R133's
examples accept a MEAS_* from reset) and holds nothing else (DESIGN CHOICE, logs 1, 3, 14, 16, 17). -/
def State.reset : State where
  seqState := 0
  kind := .humidity
  resultCode := .none
  crcPass := false
  cmdErr := false
  adapterErr := false
  crcValid := false
  crcData := 0x0000
  crcChk := 0x00
  crcRem := 0x00
  result := 0x0000
  attempt := 0
  delay := 0
  seqRaw := 0x0000
  seqChk := 0x00
  boot :=
    { busInitialised := true, busExclusive := true, parametersFixed := true, timeSourceStarted := true }
  hostProgram := []
  hostPc := 0
  hostLast := none
  schedule := []
  availAnswers := []
  byteAnswers := []
  busTrace := []
  freeIndex := 0

end Sys2Proof.Machine
end

