-- ==== Sys2Proof/Machine/Flags.lean ====
section
/-! DEFINITION. The STATUS register and its computed field BUSY (10_state.md R22, R23). -/

namespace Sys2Proof.Machine

/-- BUSY (R23): a read of SEQ_STATE, not a stored bit. -/
def State.busy (s : State) : Bool := s.seqState != seqIdle

/-- STATUS (R22, R51), CRC_VALID in bit 7 down to BUSY in bit 0. -/
def State.status (s : State) : Byte :=
  BitVec.ofBool s.crcValid ++ BitVec.ofBool s.adapterErr ++ BitVec.ofBool s.cmdErr ++ BitVec.ofBool s.crcPass
    ++ resultCodeBits s.resultCode ++ kindBit s.kind ++ BitVec.ofBool s.busy

end Sys2Proof.Machine
end

