-- ==== Sys2Proof/Machine/Operands.lean ====
section
/-! DEFINITION. Every operand the block assembles (30_encoding.md R85 to R90). -/

namespace Sys2Proof.Machine

/-- RAW16 from the first two bytes of READ3, most significant first (R59, R86, R90). -/
def rawOf (msb lsb : Byte) : Data := (msb.setWidth 16 <<< 8) ||| lsb.setWidth 16

/-- DIV24, the dividend raw ++ chk (R88, R90). -/
def dividend (raw : Data) (chk : Byte) : BitVec 24 := raw ++ chk

/-- RES16, the raw value without its two status bits (R89, R142). -/
def cleaned (raw : Data) : Data := raw &&& statusMask

/-- The trigger byte C of a measurement kind (R85, R90). -/
def triggerByte : Kind → Byte
  | .humidity => Config.cmdTrigRh
  | .temperature => Config.cmdTrigT

/-- The OP byte of a CMD write (R52, R82). -/
def opOf (data : Data) : Byte := data.setWidth 8

end Sys2Proof.Machine
end

