-- ==== Sys2Proof/Machine/Ops.lean ====
section
/-! DEFINITION. The named operations over the registers, the bus and the inputs, and the recording of events
(60_exceptions.md R180): the block has no traps, so recording an event is all that "taking an exception" is (R187),
and there is no return (R188). -/

namespace Sys2Proof.Machine

/-! ### Events the block records (R180) -/

/-- Command error: CMD_ERR, sticky, and nothing else (R183). -/
def recordCmdErr (s : State) : State := { s with cmdErr := true }

/-- Adapter error: ADAPTER_ERR, sticky, and nothing else (R184). -/
def recordAdapterErr (s : State) : State := { s with adapterErr := true }

/-- The end of a measurement: outcome and result are recorded and SEQ_STATE returns to IDLE, in one step (R187). -/
def endMeasurement (code : ResultCode) (value : Data) (s : State) : State :=
  { s with result := value, resultCode := code, seqState := seqIdle }

/-! ### Updates of the Sequencer's registers -/

/-- SEQ_STATE moves on (R134). -/
def goto (st : BitVec 4) (s : State) : State := { s with seqState := st }

/-- POLL_WAIT is entered with a full delay (R32, R136, R139). -/
def enterPollWait (s : State) : State := { s with delay := pollDelay, seqState := seqPollWait }

/-- ATTEMPT is written (R136, R139). -/
def setAttempt (n : BitVec 4) (s : State) : State := { s with attempt := n }

/-- DELAY counts one tick down (R137). -/
def countDown (s : State) : State := { s with delay := s.delay - 1 }

/-- The frame read from the bus is latched (R33, R140). -/
def latchFrame (raw : Data) (chk : Byte) (s : State) : State := { s with seqRaw := raw, seqChk := chk }

/-! ### Host registers (R51, R52) -/

/-- RegRead (R51). -/
def regRead (reg : Reg) (s : State) : Data :=
  match reg with
  | .cmd => 0x0000
  | .status => s.status.setWidth 16
  | .crcData => s.crcData
  | .crcChk => s.crcChk.setWidth 16
  | .crcRem => s.crcRem.setWidth 16
  | .result => s.result
  | .attempts => s.attempt.setWidth 16
  | .seq => s.seqState.setWidth 16

/-- A write of CRC_DATA (R25, R52). -/
def writeCrcData (data : Data) (s : State) : State := { s with crcData := data }

/-- A write of CRC_CHK, `data[7:0]` (R25, R52). -/
def writeCrcChk (data : Data) (s : State) : State := { s with crcChk := data.setWidth 8 }

/-- The results of a VERIFY (R106). -/
def writeVerifyResult (rem : Byte) (pass : Bool) (s : State) : State :=
  { s with crcRem := rem, crcPass := pass, crcValid := true }

/-- The value a RegRead hands the Host (R92). -/
def deliverRead (value : Data) (s : State) : State := { s with hostLast := some value }

/-- The Host's place in its program (R64). -/
def setHostPc (pc : Nat) (s : State) : State := { s with hostPc := pc }

/-! ### Boot requirements (70_reset_and_hazards.md R214, R215) -/

/-- All four requirements are met: a MEAS_* is within the spec's rules (R214). -/
def Boot.met (b : Boot) : Bool :=
  b.busInitialised && b.busExclusive && b.parametersFixed && b.timeSourceStarted

/-- One more requirement is met; the order is free (R215). -/
def Boot.meet (r : BootRequirement) (b : Boot) : Boot :=
  match r with
  | .busInitialised => { b with busInitialised := true }
  | .busExclusive => { b with busExclusive := true }
  | .parametersFixed => { b with parametersFixed := true }
  | .timeSourceStarted => { b with timeSourceStarted := true }

/-- The environment meets a requirement (R215). -/
def meetRequirement (r : BootRequirement) (s : State) : State := { s with boot := s.boot.meet r }

/-! ### Inputs and outputs -/

/-- The next free value's number is used up. -/
def useFree (s : State) : State := { s with freeIndex := s.freeIndex + 1 }

/-- A bus primitive is issued (R62: each has an effect on the bus). -/
def emit (e : BusEvent) (s : State) : State := { s with busTrace := s.busTrace ++ [e] }

/-- The input list of `requestBytes` is advanced. -/
def setAvailAnswers (answers : List Byte) (s : State) : State := { s with availAnswers := answers }

/-- The input list of `readByte` is advanced. -/
def setByteAnswers (answers : List Byte) (s : State) : State := { s with byteAnswers := answers }

/-- The input list of events is advanced. -/
def setSchedule (events : List Event) (s : State) : State := { s with schedule := events }

/-- The event the next step takes: the schedule's first, else a free value (R63; log 1). -/
def State.nextEvent (s : State) : Event :=
  match s.schedule with
  | e :: _ => e
  | [] => Config.freeEvent s.freeIndex

/-- The state once that event is taken from the schedule. -/
def State.takeEvent (s : State) : State :=
  match s.schedule with
  | _ :: rest => setSchedule rest s
  | [] => useFree s

/-- The Adapter's next answer of `requestBytes`: the input list's first, else a free value (R56; log 3). -/
def State.nextAvailable (s : State) : Byte :=
  match s.availAnswers with
  | n :: _ => n
  | [] => Config.freeAvailable s.freeIndex

/-- The state once that answer is used up. -/
def State.takeAvailable (s : State) : State :=
  match s.availAnswers with
  | _ :: rest => setAvailAnswers rest s
  | [] => useFree s

/-- The Adapter's next answer of `readByte`: the input list's first, else a free value (R56; log 3). -/
def State.nextByte (s : State) : Byte :=
  match s.byteAnswers with
  | b :: _ => b
  | [] => Config.freeByte s.freeIndex

/-- The state once that byte is used up (R62: a repeated `readByte` consumes another byte). -/
def State.takeByte (s : State) : State :=
  match s.byteAnswers with
  | _ :: rest => setByteAnswers rest s
  | [] => useFree s

/-! ### The five Bus Adapter primitives (R55), each to DEV_ADDR and to no other address (R58) -/

/-- `Bus.startTransaction(DEV_ADDR)`. -/
def busStart (s : State) : State := emit (.startTransaction Config.devAddr) s

/-- `Bus.writeByte(b)`. -/
def busWrite (b : Byte) (s : State) : State := emit (.writeByte b) s

/-- `Bus.endTransaction()`. -/
def busEnd (s : State) : State := emit .endTransaction s

/-- The state after `Bus.requestBytes(DEV_ADDR, 3)`, of which `s.nextAvailable` is the answer. -/
def busRequest (s : State) : State :=
  emit (.requestBytes Config.devAddr readCount s.nextAvailable) s.takeAvailable

/-- The state after `Bus.readByte()`, of which `s.nextByte` is the answer. -/
def busRead (s : State) : State := emit (.readByte s.nextByte) s.takeByte

end Sys2Proof.Machine
end

