-- ==== Sys2Proof/Machine/Measurement.lean ====
section
/-! DEFINITION. The measurement commands MEAS_RH and MEAS_T (41_measurement_protocol.md R131 to R133). -/

namespace Sys2Proof.Machine

/-- The registers an accepted measurement starts with (R131, the IDLE branch). -/
def startMeasurement (k : Kind) (s : State) : State :=
  { s with kind := k, resultCode := .none, result := 0x0000, attempt := 0, seqState := seqTrigger }

/-- MeasAccept (R131): rejected with CMD_ERR while a measurement runs, accepted in IDLE; refused before the environment
has met the boot requirements, where no rule speaks (R214, U12). -/
def measAccept (k : Kind) (s : State) : Host.Outcome State Fault Refusal :=
  if s.boot.met then .next (if s.busy then recordCmdErr s else startMeasurement k s)
  else .refused .bootRequirementsUnmet

/-- MEAS_RH (R132). -/
def execMeasRh (s : State) : Host.Outcome State Fault Refusal := measAccept .humidity s

/-- MEAS_T (R133). -/
def execMeasT (s : State) : Host.Outcome State Fault Refusal := measAccept .temperature s

end Sys2Proof.Machine
end

