-- ==== Sys2Proof/Machine/Verifier.lean ====
section
/-! DEFINITION. The CRC-8 Verifier and the commands NOP and VERIFY (40_crc_verifier.md). -/

namespace Sys2Proof.Machine

/-- The remainder and the divisor after the first `i` of the division steps (R101): step `i` tests bit 23 − i of the
remainder, XORs the divisor in if it is set, and shifts the divisor right by one in any case. -/
def crcDivide (raw : Data) (chk : Byte) : Nat → BitVec 24 × BitVec 24
  | 0 => (dividend raw chk, gen)
  | i + 1 =>
    let (r, d) := crcDivide raw chk i
    (if r.getLsbD (23 - i) then r ^^^ d else r, d >>> 1)

/-- The 24-bit remainder after all 16 division steps (R101). -/
def crcRemainder (raw : Data) (chk : Byte) : BitVec 24 := (crcDivide raw chk 16).1

/-- CRC8V's `rem`, the low 8 bits of the remainder (R101, R26). -/
def crc8vRem (raw : Data) (chk : Byte) : Byte := (crcRemainder raw chk).setWidth 8

/-- CRC8V's `pass`: the whole remainder is zero (R101). -/
def crc8vPass (raw : Data) (chk : Byte) : Bool := crcRemainder raw chk == 0

/-- CRC(raw), the check value of the data alone (R103). -/
def crcOf (raw : Data) : Byte := crc8vRem raw 0x00

/-- One bit of the byte-serial form (R104). -/
def crcSerialBit (c : Byte) : Byte := if c.getLsbD 7 then (c <<< 1) ^^^ 0x31 else c <<< 1

/-- One byte of the byte-serial form (R104): XOR it in, then eight bits. -/
def crcSerialByte (c b : Byte) : Byte := crcSerialBit^[8] (c ^^^ b)

/-- The byte-serial form of CRC(raw) (R104), most significant byte first. -/
def crcSerial (raw : Data) : Byte :=
  [raw.extractLsb' 8 8, raw.extractLsb' 0 8].foldl crcSerialByte 0x00

/-- VERIFY's effect (R106): the verifier on CRC_DATA and CRC_CHK. -/
def verify (s : State) : State :=
  writeVerifyResult (crc8vRem s.crcData s.crcChk) (crc8vPass s.crcData s.crcChk) s

/-- NOP (R105): nothing. -/
def execNop (s : State) : Host.Outcome State Fault Refusal := .next s

/-- VERIFY (R106). -/
def execVerify (s : State) : Host.Outcome State Fault Refusal := .next (verify s)

end Sys2Proof.Machine
end

