-- ==== Sys2Proof/Machine/HostAccess.lean ====
section
/-! DEFINITION. The host transactions RD and WR (20_memory.md R50 to R53) and the execution of a command value
(30_encoding.md R83). -/

namespace Sys2Proof.Machine

/-- ExecuteCommand (R83, R84): OP by its whole value; a reserved value sets CMD_ERR and does nothing else (R108). -/
def executeCommand (op : Byte) (s : State) : Host.Outcome State Fault Refusal :=
  if op = 0x00 then .next s
  else if op = 0x01 then .next (verify s)
  else if op = 0x02 then measAccept .humidity s
  else if op = 0x03 then measAccept .temperature s
  else .next (recordCmdErr s)

/-- RegWrite (R52): a CMD write executes a command, CRC_DATA and CRC_CHK store, a read-only register ignores it. -/
def regWrite (reg : Reg) (data : Data) (s : State) : Host.Outcome State Fault Refusal :=
  match reg with
  | .cmd => executeCommand (opOf data) s
  | .crcData => .next (writeCrcData data s)
  | .crcChk => .next (writeCrcChk data s)
  | .status => .next s
  | .crcRem => .next s
  | .result => .next s
  | .attempts => .next s
  | .seq => .next s

/-- RD (R51): no register changes; the value read is the transaction's result. -/
def execRd (reg : Reg) (s : State) : Host.Outcome State Fault Refusal := .next (deliverRead (regRead reg s) s)

/-- WR (R52). -/
def execWr (reg : Reg) (data : Data) (s : State) : Host.Outcome State Fault Refusal := regWrite reg data s

end Sys2Proof.Machine
end

