-- ==== Sys2Proof/Machine/Dispatch.lean ====
section
/-! DEFINITION. exec: one arm per instruction. -/

namespace Sys2Proof.Machine

def exec (i : Instr) (s : State) : Host.Outcome State Fault Refusal :=
  match i with
  | .rd reg => Sys2Proof.Machine.execRd reg s
  | .wr reg data => Sys2Proof.Machine.execWr reg data s
  | .nop => Sys2Proof.Machine.execNop s
  | .verify => Sys2Proof.Machine.execVerify s
  | .measRh => Sys2Proof.Machine.execMeasRh s
  | .measT => Sys2Proof.Machine.execMeasT s

end Sys2Proof.Machine
end

