-- ==== Sys2Proof/Machine/Sequencer.lean ====
section
/-! DEFINITION. The Sequencer's steps and the Time Source's tick (41_measurement_protocol.md R134 to R141), and the
reset input (70_reset_and_hazards.md R210, R211). -/

namespace Sys2Proof.Machine

/-- TRIGGER (R135): the one-byte trigger command, then the bus is released. -/
def stepTrigger (s : State) : State :=
  goto seqCmdSent (busEnd (busWrite (triggerByte s.kind) (busStart s)))

/-- CMD_SENT (R136). -/
def stepCmdSent (s : State) : State := enterPollWait (setAttempt 0 s)

/-- PollFailed (R139): an answer above 3 is recorded in ADAPTER_ERR; the attempt counts; the tenth ends in TIMEOUT. -/
def pollFailed (n : Byte) (s : State) : State :=
  let noted := if 3 < n.toNat then recordAdapterErr s else s
  let counted := setAttempt (noted.attempt + 1) noted
  if counted.attempt = maxAttempts then endMeasurement .timeout sentTimeout counted else enterPollWait counted

/-- POLL_REQ (R138). -/
def stepPollReq (s : State) : State :=
  if s.nextAvailable = readCount then goto seqDataReady (busRequest s)
  else pollFailed s.nextAvailable (busRequest s)

/-- DATA_READY (R140): msb, lsb and checksum, in bus order. -/
def stepDataReady (s : State) : State :=
  let s1 := busRead s
  let s2 := busRead s1
  goto seqCrcCheck (latchFrame (rawOf s.nextByte s1.nextByte) s2.nextByte (busRead s2))

/-- CRC_CHECK (R141): the verifier sees the raw value with its status bits; masking comes after a pass. -/
def stepCrcCheck (s : State) : State :=
  if crc8vPass s.seqRaw s.seqChk then endMeasurement .ok (cleaned s.seqRaw) s
  else endMeasurement .crcFail sentCrc s

/-- The Sequencer's step by SEQ_STATE (R134): none in IDLE and POLL_WAIT, where a Sequencer event passes without
effect (log 2); stuck in the values no rule writes (U16, log 10). -/
def sequencerStep (s : State) : Host.Outcome State Fault Refusal :=
  if s.seqState = seqIdle then .next s
  else if s.seqState = seqTrigger then .next (stepTrigger s)
  else if s.seqState = seqCmdSent then .next (stepCmdSent s)
  else if s.seqState = seqPollWait then .next s
  else if s.seqState = seqPollReq then .next (stepPollReq s)
  else if s.seqState = seqDataReady then .next (stepDataReady s)
  else if s.seqState = seqCrcCheck then .next (stepCrcCheck s)
  else .fault .unnamedSeqState

/-- Tick (R137): counted in POLL_WAIT only; at zero the poll is due. -/
def tick (s : State) : State :=
  if s.seqState = seqPollWait then
    if (countDown s).delay = 0 then goto seqPollReq (countDown s) else countDown s
  else s

/-- The bus after a reset that interrupts a measurement (R211, BUS_AFTER_RESET): the coming answers are free. Log 7. -/
def busAfterReset (s : State) : State :=
  if s.busy then
    setByteAnswers (Config.bytesAfterReset s.freeIndex) (setAvailAnswers (Config.availAfterReset s.freeIndex) s)
  else s

/-- The block's registers at the values of R36; SEQ_RAW and SEQ_CHK take free values (R210; log 9). -/
def resetRegisters (s : State) : State :=
  { s with
    seqState := seqIdle, kind := .humidity, resultCode := .none, crcPass := false, cmdErr := false,
    adapterErr := false, crcValid := false, crcData := 0x0000, crcChk := 0x00, crcRem := 0x00, result := 0x0000,
    attempt := 0, delay := 0, seqRaw := Config.seqRawAfterReset s.freeIndex,
    seqChk := Config.seqChkAfterReset s.freeIndex }

/-- The reset input (R210, R211): one atomic step, without outcome and without a bus primitive; the Host, the
schedule, the bus trace and what the environment has met stand outside the block and stay (log 19). -/
def resetBlock (s : State) : State := useFree (resetRegisters (busAfterReset s))

end Sys2Proof.Machine
end

