-- ==== Sys2Proof/Machine/HostAgent.lean ====
section
/-! DEFINITION. The Host's step through its program (20_memory.md R64, 30_encoding.md R91, R92), and the step of each
event (R63). -/

namespace Sys2Proof.Machine

/-- The Host moves past its transaction when the block gives a next state. -/
def passOp (o : Host.Outcome State Fault Refusal) : Host.Outcome State Fault Refusal :=
  match o with
  | .next s => .next (setHostPc (s.hostPc + 1) s)
  | .fault f => .fault f
  | .refused r => .refused r

/-- What a branch tests (R92): the value of the last `rd`; a free value when there was none (log 15). -/
def State.branchValue (s : State) : Data := s.hostLast.getD (Config.unreadValue s.freeIndex)

/-- The state once the branch value is read: without a last `rd` a free value is used up (log 15). -/
def State.takeBranchValue (s : State) : State :=
  match s.hostLast with
  | some _ => s
  | none => useFree s

/-- A branch (R92): to its target when the masked value is zero (`onZero`) or non-zero, else to the next operation. -/
def hostBranch (onZero : Bool) (target : Nat) (mask : Data) (s : State) : State :=
  setHostPc (if (s.branchValue &&& mask == 0) = onZero then target else s.hostPc + 1) s.takeBranchValue

/-- The Host's step: the operation at its place in the program; nothing once the program has run past its last
operation (log 2, log 14). -/
def hostStep (s : State) : Host.Outcome State Fault Refusal :=
  match s.hostProgram[s.hostPc]? with
  | none => .next s
  | some (.txn w) => passOp (exec (decode w) s)
  | some (.bz target mask) => .next (hostBranch true target mask s)
  | some (.bnz target mask) => .next (hostBranch false target mask s)

/-- The step of one event (R9, R63, R210, R215). -/
def eventStep (e : Event) (s : State) : Host.Outcome State Fault Refusal :=
  match e with
  | .host => hostStep s
  | .sequencer => sequencerStep s
  | .tick => .next (tick s)
  | .reset => .next (resetBlock s)
  | .environment r => .next (meetRequirement r s)

/-- The state in which the very next step is the Host's and its operation is the transaction `w` (log 20). -/
def State.withTransaction (s : State) (w : Htw) : State :=
  { s with hostProgram := [.txn w], hostPc := 0, schedule := .host :: s.schedule }

/-- The transaction word of a table word, its bits above the format's width dropped (log 13). -/
def fetchWordOf (nbits w : Nat) : Htw := if nbits ≤ 8 then htwOfCmd8 (BitVec.ofNat 8 w) else BitVec.ofNat 20 w

end Sys2Proof.Machine
end

