-- ==== Sys2Proof/Machine/Step.lean ====
section
/-! DEFINITION. One step of the machine: one atomic step of one agent (20_memory.md R63). -/

namespace Sys2Proof.Machine

/-- The next event is taken from the schedule and its agent moves (R63). -/
def step (s : State) : Host.Outcome State Fault Refusal := eventStep s.nextEvent s.takeEvent

/-- `s` with a table word placed as the Host's next transaction, and the Host to move next (log 20). -/
def State.withFetchWord (s : State) (nbits w : Nat) : State := s.withTransaction (fetchWordOf nbits w)

end Sys2Proof.Machine
end

