-- ==== Sys2Proof/Machine/Assembler.lean ====
section
/-! DEFINITION. The assembly syntax and the pseudo-instructions of 30_encoding.md R92, R93, as host operations; a label
is a place in the program (log 14). -/

namespace Sys2Proof.Machine.Asm

/-- `rd <REG>` (R92). -/
def rd (reg : Reg) : HostOp := .txn (htwOf false reg.index 0x0000)

/-- `wr <REG>, <imm16>` (R92). -/
def wr (reg : Reg) (imm : Data) : HostOp := .txn (htwOf true reg.index imm)

/-- `bz <label>` with its default mask 0x0001 (R92). -/
def bz (label : Nat) (mask : Data := 0x0001) : HostOp := .bz label mask

/-- `bnz <label>` with its default mask 0x0001 (R92). -/
def bnz (label : Nat) (mask : Data := 0x0001) : HostOp := .bnz label mask

/-- `nop` (R93). -/
def nop : List HostOp := [wr .cmd 0x0000]

/-- `verify <raw>, <chk>` (R93). -/
def verify (raw : Data) (chk : Byte) : List HostOp :=
  [wr .crcData raw, wr .crcChk (chk.setWidth 16), wr .cmd 0x0001]

/-- `meas.rh` (R93). -/
def measRh : List HostOp := [wr .cmd 0x0002]

/-- `meas.t` (R93). -/
def measT : List HostOp := [wr .cmd 0x0003]

/-- `wait_idle` placed at `here` (R93): loop while BUSY = 1. -/
def waitIdle (here : Nat) : List HostOp := [rd .status, bnz here 0x0001]

/-- `read_humidity` placed at `here` (R93). -/
def readHumidity (here : Nat) : List HostOp := measRh ++ waitIdle (here + 1) ++ [rd .status, rd .result]

/-- `read_temperature` placed at `here` (R93). -/
def readTemperature (here : Nat) : List HostOp := measT ++ waitIdle (here + 1) ++ [rd .status, rd .result]

end Sys2Proof.Machine.Asm
end

