-- ==== Sys2Proof/Safety.lean ====
section
/-! DEFINITION. The words the claims use: faulted states (10_state.md R24), the invariant of the block's registers, a
measurement's run with its end, its outcome and its steps and ticks counted (41_measurement_protocol.md R147,
70_reset_and_hazards.md R221, R224), runs along events and their fairness (20_memory.md R63, R222). -/

namespace Sys2Proof.Machine

/-- A state the spec tells a model to treat as faulted (R24): CMD_ERR or ADAPTER_ERR is set. The machine goes on. -/
def State.faulted (s : State) : Bool := s.cmdErr || s.adapterErr

/-- The two flags that only reset clears (R24), as a pair. -/
def State.stickyFlags (s : State) : Bool × Bool := (s.cmdErr, s.adapterErr)

/-- An instruction that asks for a measurement: MEAS_RH, MEAS_T, and a CMD write of either's value (R83). -/
def asksMeasurement (i : Instr) : Bool :=
  match i with
  | .rd _ => false
  | .wr reg data => decide (reg = .cmd ∧ (opOf data = 0x02 ∨ opOf data = 0x03))
  | .nop => false
  | .verify => false
  | .measRh => true
  | .measT => true

/-- RESULT and ATTEMPT as RESULT_CODE has them (R27, R28). -/
def State.resultLaw (s : State) : Prop :=
  match s.resultCode with
  | .none => s.result = 0x0000
  | .ok => s.result.getLsbD 0 = false ∧ s.result.getLsbD 1 = false ∧ s.attempt.toNat ≤ 9
  | .timeout => s.result = 998 ∧ s.attempt = 10
  | .crcFail => s.result = 999 ∧ s.attempt.toNat ≤ 9

/-- The invariant of the block: what the spec says of its registers in every reachable state. -/
structure State.Inv (s : State) : Prop where
  /-- SEQ_STATE has a named value (R29: no rule writes 7 to 15). -/
  named : s.seqState.toNat ≤ 6
  /-- 1 ≤ DELAY ≤ 10 in POLL_WAIT (R32). -/
  delayRuns : s.seqState = seqPollWait → 1 ≤ s.delay.toNat ∧ s.delay.toNat ≤ 10
  /-- ATTEMPT is in 0..10 at all times (R28). -/
  attemptBound : s.attempt.toNat ≤ 10
  /-- ATTEMPT is 0 before the first poll (R131). -/
  attemptFresh : s.seqState = seqTrigger ∨ s.seqState = seqCmdSent → s.attempt = 0
  /-- ATTEMPT is below the bound while a measurement runs (R139: the tenth failed poll ends it). -/
  attemptRuns : s.busy = true → s.attempt.toNat ≤ 9
  /-- A running measurement has no outcome yet (R187, R217). -/
  busyNoResult : s.busy = true → s.resultCode = .none
  /-- A measurement runs only where the boot requirements are met (R214). -/
  booted : s.busy = true → s.boot.met = true
  /-- RESULT and ATTEMPT as RESULT_CODE has them (R27, R28). -/
  outcome : s.resultLaw
  /-- CRC_PASS says whether CRC_REM is zero, once a VERIFY has executed (R22, R102, R106). -/
  verified : s.crcValid = true → (s.crcPass = true ↔ s.crcRem = 0x00)
  /-- CRC_PASS and CRC_REM keep their reset values until a VERIFY (R36, R106). -/
  unverified : s.crcValid = false → s.crcPass = false ∧ s.crcRem = 0x00
  /-- In DATA_READY the last bus primitive is the poll that found 3 bytes (R61, R138). -/
  pollFound : s.seqState = seqDataReady →
    s.busTrace.getLast? = some (.requestBytes Config.devAddr readCount readCount)
  /-- In CRC_CHECK, SEQ_RAW and SEQ_CHK hold the last three bytes read: they are written before they are read (R33). -/
  frameLatched : s.seqState = seqCrcCheck →
    ∃ before msb lsb chk, s.busTrace = before ++ [.readByte msb, .readByte lsb, .readByte chk]
      ∧ s.seqRaw = rawOf msb lsb ∧ s.seqChk = chk

/-- The Sequencer has an enabled step (R134). -/
def State.seqEnabled (s : State) : Bool :=
  decide (s.seqState = seqTrigger ∨ s.seqState = seqCmdSent ∨ s.seqState = seqPollReq ∨ s.seqState = seqDataReady
    ∨ s.seqState = seqCrcCheck)

/-- The next step is an enabled Sequencer step. -/
def State.takesSeqStep (s : State) : Bool := decide (s.nextEvent = .sequencer) && s.seqEnabled

/-- The next step is a tick that POLL_WAIT counts (R137). -/
def State.takesCountedTick (s : State) : Bool :=
  decide (s.nextEvent = .tick ∧ s.seqState = seqPollWait)

/-- A run of the machine that starts in `s` and in which every step is taken while BUSY = 1, so it goes no further than
the first IDLE state: it leads to the last state after `steps` enabled Sequencer steps and `ticks` ticks counted in
POLL_WAIT (R147, R221, R224). `cut` says that its last step was a reset (R211), which is the only place a reset can have.
Host steps, and ticks elsewhere, may stand anywhere in it (R63) and are not counted. -/
inductive Measuring (s : State) : Nat → Nat → Bool → State → Prop where
  | start : Measuring s 0 0 false s
  | more {steps ticks : Nat} {cut : Bool} {t u : State} : Measuring s steps ticks cut t → t.busy = true →
      step t = .next u →
      Measuring s (steps + t.takesSeqStep.toNat) (ticks + t.takesCountedTick.toNat) (decide (t.nextEvent = .reset)) u

/-- A measurement run (R224): it starts in TRIGGER, which only an accepted MEAS_* enters (R30), and ends at the first
state with SEQ_STATE = IDLE. -/
structure MeasurementRun (s : State) (steps ticks : Nat) (cut : Bool) (t : State) : Prop where
  /-- The state an accept leaves (R131). -/
  accepted : s.seqState = seqTrigger
  /-- From there, no state before the last is IDLE. -/
  runs : Measuring s steps ticks cut t
  /-- The last state is IDLE. -/
  ended : t.seqState = seqIdle

/-- The outcome of a measurement run (R224). -/
structure RunOutcome where
  code : ResultCode
  result : Data
  attempt : BitVec 4
  cmdErr : Bool
  adapterErr : Bool
  deriving DecidableEq, Repr

/-- The outcome read off the state a run ends in (R224). -/
def State.runOutcome (s : State) : RunOutcome where
  code := s.resultCode
  result := s.result
  attempt := s.attempt
  cmdErr := s.cmdErr
  adapterErr := s.adapterErr

/-- An unending run of the agents (R63): event `n` leads from state `n` to state `n + 1`. -/
def IsRun (events : Nat → Event) (states : Nat → State) : Prop :=
  ∀ n, eventStep (events n) (states n) = .next (states (n + 1))

/-- The fairness the spec assumes (R222): neither an enabled Sequencer nor a started Time Source waits for ever. -/
structure WeaklyFair (events : Nat → Event) (states : Nat → State) : Prop where
  /-- After every point the Sequencer is disabled at some state or takes its step. -/
  sequencer : ∀ n, ∃ m, n ≤ m ∧ ((states m).seqEnabled = true → events m = .sequencer)
  /-- After every point the Time Source ticks, once it is started; it is enabled in every state (R137). -/
  clock : ∀ n, ∃ m, n ≤ m ∧ ((states m).boot.timeSourceStarted = true → events m = .tick)

/-- The bus primitives of the trigger of a kind (R85, R135). -/
def triggerTrace (k : Kind) : List BusEvent :=
  [.startTransaction Config.devAddr, .writeByte (triggerByte k), .endTransaction]

/-- The bus primitives of a row of polls, by their answers (R138). -/
def pollTrace (answers : List Byte) : List BusEvent :=
  answers.map (.requestBytes Config.devAddr readCount)

/-- A schedule that serves one measurement to its end without the Host (R130, R222): two Sequencer events for TRIGGER
and CMD_SENT, then ten rounds of ten ticks and three Sequencer events, for the poll and, when it finds 3 bytes, for
DATA_READY and CRC_CHECK. Where the Sequencer has no enabled step its event passes without effect. -/
def measurementSchedule : List Event :=
  [.sequencer, .sequencer]
    ++ (List.replicate 10 (List.replicate 10 Event.tick ++ [.sequencer, .sequencer, .sequencer])).flatten

end Sys2Proof.Machine
end

