-- ==== Sys2Proof/Certificates/Slice0/Obligations.lean ====
section
/-! DEFINITION. The statements for the provers, each from a rule of spec/ (OBLIGATIONS.json lists them). -/

open Sys2Proof Sys2Proof.Machine

/-! ### Encodings (30_encoding.md) -/

/-- R81, R83, R91: no bit of an encoding is dropped; decoding an encoded well-formed instruction gives it back. -/
def Obligations.DecodeOfEncodeIsIdentity : Prop :=
  ∀ i : Instr, i.wf = true → decode (encode i) = i

/-- R81, R83, R84: every word decodes to a well-formed instruction, and the decoder drops only the bits the spec
ignores: DATA of a read, DATA[15:8] of a command. -/
def Obligations.EncodeOfDecodeKeepsMeantBits : Prop :=
  ∀ w : Htw, (decode w).wf = true ∧ encode (decode w) =
    if w.getLsbD 19 = false then w &&& 0xF0000
    else if w.extractLsb' 16 3 = 0 ∧ w.extractLsb' 0 8 ≤ 3 then w &&& 0xF00FF
    else w

/-- R91 (and R21, R83, R84 for the registers and the commands): WE and IDX choose the transaction, and a write of
index 0 decodes DATA[7:0]. -/
def Obligations.DecodeFollowsFields : Prop :=
  ∀ (idx : BitVec 3) (data : Data) (reg : Reg),
    [Reg.cmd, .status, .crcData, .crcChk, .crcRem, .result, .attempts, .seq][idx.toNat]? = some reg →
      decode (0#1 ++ idx ++ data) = .rd reg
      ∧ (idx ≠ 0 → decode (1#1 ++ idx ++ data) = .wr reg data)
      ∧ (idx = 0 → data.extractLsb' 0 8 = 0x00 → decode (1#1 ++ idx ++ data) = .nop)
      ∧ (idx = 0 → data.extractLsb' 0 8 = 0x01 → decode (1#1 ++ idx ++ data) = .verify)
      ∧ (idx = 0 → data.extractLsb' 0 8 = 0x02 → decode (1#1 ++ idx ++ data) = .measRh)
      ∧ (idx = 0 → data.extractLsb' 0 8 = 0x03 → decode (1#1 ++ idx ++ data) = .measT)
      ∧ (idx = 0 → 0x04 ≤ (data.extractLsb' 0 8).toNat → decode (1#1 ++ idx ++ data) = .wr .cmd data)

/-- R94: the words of the common transactions. -/
def Obligations.ListedWordsDecode : Prop :=
  decode 0x80000 = .nop ∧ decode 0x80001 = .verify ∧ decode 0x80002 = .measRh ∧ decode 0x80003 = .measT
  ∧ decode 0x10000 = .rd .status
  ∧ (∀ h : Data, decode (0xA#4 ++ h) = .wr .crcData h)
  ∧ (∀ h : Byte, decode (0xB00#12 ++ h) = .wr .crcChk (h.setWidth 16))
  ∧ decode 0x40000 = .rd .crcRem ∧ decode 0x50000 = .rd .result ∧ decode 0x60000 = .rd .attempts
  ∧ decode 0x70000 = .rd .seq

/-! ### Host transactions (20_memory.md R51, R52) -/

/-- R51 (R22, R23 for STATUS): what a read of each of the eight registers hands the Host, and that nothing else
changes. -/
def Obligations.ReadDeliversRegister : Prop :=
  ∀ s : State,
    exec (.rd .cmd) s = .next { s with hostLast := some 0x0000 }
    ∧ (∃ v : Data, exec (.rd .status) s = .next { s with hostLast := some v }
      ∧ v.getLsbD 0 = (s.seqState != 0)
      ∧ v.getLsbD 1 = (s.kind == .temperature)
      ∧ v.extractLsb' 2 2 = (match s.resultCode with
          | .none => 0b00#2 | .ok => 0b01#2 | .timeout => 0b10#2 | .crcFail => 0b11#2)
      ∧ v.getLsbD 4 = s.crcPass
      ∧ v.getLsbD 5 = s.cmdErr
      ∧ v.getLsbD 6 = s.adapterErr
      ∧ v.getLsbD 7 = s.crcValid
      ∧ v.extractLsb' 8 8 = 0x00#8)
    ∧ exec (.rd .crcData) s = .next { s with hostLast := some s.crcData }
    ∧ exec (.rd .crcChk) s = .next { s with hostLast := some (0x00#8 ++ s.crcChk) }
    ∧ exec (.rd .crcRem) s = .next { s with hostLast := some (0x00#8 ++ s.crcRem) }
    ∧ exec (.rd .result) s = .next { s with hostLast := some s.result }
    ∧ exec (.rd .attempts) s = .next { s with hostLast := some (0x000#12 ++ s.attempt) }
    ∧ exec (.rd .seq) s = .next { s with hostLast := some (0x000#12 ++ s.seqState) }

/-- R52, R83 (R84, R108 for the reserved values): a write of CRC_DATA or CRC_CHK stores, a write of a read-only register
has no effect, a write of CMD executes the command of DATA[7:0] whatever DATA[15:8] is, and a reserved value sets CMD_ERR
and does nothing else. -/
def Obligations.WriteStoresOrExecutes : Prop :=
  ∀ (s : State) (data : Data) (high op : Byte),
    exec (.wr .crcData data) s = .next { s with crcData := data }
    ∧ exec (.wr .crcChk data) s = .next { s with crcChk := data.extractLsb' 0 8 }
    ∧ (∀ reg ∈ [Reg.status, .crcRem, .result, .attempts, .seq], exec (.wr reg data) s = .next s)
    ∧ (op = 0x00 → exec (.wr .cmd (high ++ op)) s = exec .nop s)
    ∧ (op = 0x01 → exec (.wr .cmd (high ++ op)) s = exec .verify s)
    ∧ (op = 0x02 → exec (.wr .cmd (high ++ op)) s = exec .measRh s)
    ∧ (op = 0x03 → exec (.wr .cmd (high ++ op)) s = exec .measT s)
    ∧ (0x04 ≤ op.toNat → exec (.wr .cmd (high ++ op)) s = .next { s with cmdErr := true })

/-- R105: NOP leaves every state unchanged, also while BUSY; so does a CMD write of 0x00 under any DATA[15:8]. -/
def Obligations.NopChangesNothing : Prop :=
  decode 0x80000 = .nop ∧ ∀ s : State, exec .nop s = .next s ∧ ∀ high : Byte, exec (.wr .cmd (high ++ 0x00#8)) s = .next s

/-- R55, R190: every instruction completes in every state, but for one that asks for a measurement before the boot
requirements are met (R214); and none touches the bus, the Adapter's answers, the Sequencer's latches and delay,
ADAPTER_ERR, the boot requirements, or the Host's program. -/
def Obligations.HostTransactionFrame : Prop :=
  (∀ (i : Instr) (s : State), (s.boot.met = true ∨ asksMeasurement i = false) → ∃ t, exec i s = .next t)
  ∧ ∀ (i : Instr) (s t : State), exec i s = .next t →
    t.busTrace = s.busTrace ∧ t.availAnswers = s.availAnswers ∧ t.byteAnswers = s.byteAnswers
    ∧ t.delay = s.delay ∧ t.seqRaw = s.seqRaw ∧ t.seqChk = s.seqChk ∧ t.adapterErr = s.adapterErr
    ∧ t.boot = s.boot ∧ t.hostProgram = s.hostProgram ∧ t.hostPc = s.hostPc ∧ t.schedule = s.schedule
    ∧ t.freeIndex = s.freeIndex ∧ ((∀ reg, i ≠ .rd reg) → t.hostLast = s.hostLast)

/-- R145, R186: no transaction disturbs a running measurement: while BUSY every instruction leaves everything the
measurement works on as it is (it completes where the boot requirements are met, as they are while BUSY in every state of
State.Inv); reset ends the measurement. -/
def Obligations.OnlyResetCancelsMeasurement : Prop :=
  (∀ (i : Instr) (s : State), s.seqState ≠ 0 → s.boot.met = true → ∃ t, exec i s = .next t)
  ∧ (∀ (i : Instr) (s t : State), s.seqState ≠ 0 → exec i s = .next t →
    t.seqState = s.seqState ∧ t.kind = s.kind ∧ t.resultCode = s.resultCode ∧ t.result = s.result
    ∧ t.attempt = s.attempt ∧ t.delay = s.delay ∧ t.seqRaw = s.seqRaw ∧ t.seqChk = s.seqChk
    ∧ t.adapterErr = s.adapterErr ∧ t.busTrace = s.busTrace)
  ∧ ∀ s : State, s.nextEvent = .reset → ∃ t, step s = .next t ∧ t.seqState = 0 ∧ t.busTrace = s.busTrace

/-- R25: CRC_DATA and CRC_CHK are read back as written; only the Host's writes of them change them, no command and no
Sequencer step (nor a tick) does; they are the operands of the verifier. -/
def Obligations.OperandsArePlainStorage : Prop :=
  (∀ (s : State) (data : Data) (chk : Byte),
      (∃ t, exec (.wr .crcData data) s = .next t ∧ exec (.rd .crcData) t = .next { t with hostLast := some data })
      ∧ ∃ t, exec (.wr .crcChk (0x00#8 ++ chk)) s = .next t
          ∧ exec (.rd .crcChk) t = .next { t with hostLast := some (0x00#8 ++ chk) })
  ∧ (∀ (i : Instr) (s t : State), exec i s = .next t →
      ((∀ d, i ≠ .wr .crcData d) → t.crcData = s.crcData) ∧ ((∀ d, i ≠ .wr .crcChk d) → t.crcChk = s.crcChk))
  ∧ (∀ s t : State, (s.nextEvent = .sequencer ∨ s.nextEvent = .tick) → step s = .next t →
      t.crcData = s.crcData ∧ t.crcChk = s.crcChk)
  ∧ ∀ s : State, ∃ t, exec .verify s = .next t
      ∧ t.crcRem = crc8vRem s.crcData s.crcChk ∧ t.crcPass = crc8vPass s.crcData s.crcChk

/-! ### The verifier (40_crc_verifier.md) -/

/-- R106: VERIFY writes CRC_REM, CRC_PASS and CRC_VALID from the verifier on CRC_DATA and CRC_CHK, and nothing else, in
every state; a second VERIFY gives the same; the rule's corner cases and example; no Sequencer step writes its results. -/
def Obligations.VerifyWritesItsResults : Prop :=
  decode 0x80001 = .verify
  ∧ (∀ s : State, exec .verify s = .next
      { s with crcRem := crc8vRem s.crcData s.crcChk, crcPass := crc8vPass s.crcData s.crcChk, crcValid := true })
  ∧ (∀ s t : State, exec .verify s = .next t → exec .verify t = .next t)
  ∧ crc8vPass 0x0000 0x00 = true
  ∧ (∀ chk : Byte, crc8vPass 0xFFFF chk = true ↔ chk = 0x2D)
  ∧ (∀ (raw : Data) (chk : Byte), ∀ k < 8, crc8vPass raw chk = true → crc8vPass raw (chk ^^^ (1#8 <<< k)) = false)
  ∧ (crc8vRem 0x683A 0x7C = 0x00 ∧ crc8vPass 0x683A 0x7C = true)
  ∧ ∀ s t : State, s.nextEvent = .sequencer → step s = .next t →
      t.crcRem = s.crcRem ∧ t.crcPass = s.crcPass ∧ t.crcValid = s.crcValid

/-- R104: the byte-serial form gives the same CRC(raw). -/
def Obligations.ByteSerialFormAgrees : Prop := ∀ raw : Data, crcSerial raw = crcOf raw

/-- R103: rem = CRC(raw) XOR chk, the verifier passes iff chk = CRC(raw), so exactly one checksum passes; and CRC(raw) is
the remainder of raw(x)·x⁸ divided by x⁸+x⁵+x⁴+1 (0x131) over GF(2): raw ++ 0 is a multiple of it plus CRC(raw). -/
def Obligations.VerifierIsPolynomialDivision : Prop :=
  ∀ raw : Data,
    (∀ chk : Byte, crc8vRem raw chk = crcOf raw ^^^ chk ∧ (crc8vPass raw chk = true ↔ chk = crcOf raw))
    ∧ (∃! chk : Byte, crc8vPass raw chk = true)
    ∧ ∃ quotient : BitVec 16, (raw ++ 0x00#8 : BitVec 24) = (List.range 16).foldl
        (fun acc k => if quotient.getLsbD k then acc ^^^ (0x000131#24 <<< k) else acc) (0x0000#16 ++ crcOf raw)

/-- R102: after the loop the upper 16 bits of the remainder are zero, so pass = (rem = 0x00). -/
def Obligations.RemainderFitsInEightBits : Prop :=
  ∀ (raw : Data) (chk : Byte), (crcRemainder raw chk).extractLsb' 8 16 = 0
    ∧ (crc8vPass raw chk = true ↔ crc8vRem raw chk = 0x00)

/-- R107: a passing frame with one bit inverted fails; so does one with an error of odd weight, and one with an error
of two bits. The frame `raw ++ chk` and the error are 24-bit words. -/
def Obligations.FrameErrorsAreDetected : Prop :=
  ∀ frame error : BitVec 24, crc8vPass (frame.extractLsb' 8 16) (frame.extractLsb' 0 8) = true →
    ((∃ k < 24, error = 1#24 <<< k)
      ∨ ((List.range 24).countP error.getLsbD) % 2 = 1
      ∨ (List.range 24).countP error.getLsbD = 2) →
    crc8vPass ((frame ^^^ error).extractLsb' 8 16) ((frame ^^^ error).extractLsb' 0 8) = false

/-- R109: the three required vectors pass, and each fails with any one bit of the frame inverted. -/
def Obligations.RequiredVectorsPass : Prop :=
  ∀ frame ∈ [0x00DC79#24, 0x683A7C#24, 0x4E856B#24],
    crc8vPass (frame.extractLsb' 8 16) (frame.extractLsb' 0 8) = true
    ∧ ∀ k < 24, crc8vPass ((frame ^^^ (1#24 <<< k)).extractLsb' 8 16) ((frame ^^^ (1#24 <<< k)).extractLsb' 0 8) = false

/-! ### Starting a measurement (41_measurement_protocol.md R131 to R133) -/

/-- R131 (R132, R133): where the boot requirements are met (R214), a MEAS_* command is accepted in IDLE; while a
measurement runs it sets CMD_ERR and does nothing else. -/
def Obligations.MeasurementAcceptedOrRejected : Prop :=
  ∀ s : State, s.boot.met = true →
    (s.seqState = 0 →
      exec .measRh s = .next
        { s with kind := .humidity, resultCode := .none, result := 0x0000, attempt := 0, seqState := 1 }
      ∧ exec .measT s = .next
        { s with kind := .temperature, resultCode := .none, result := 0x0000, attempt := 0, seqState := 1 })
    ∧ (s.seqState ≠ 0 →
      exec .measRh s = .next { s with cmdErr := true } ∧ exec .measT s = .next { s with cmdErr := true })

/-- R214, R215 (U12 for the refusal): before the environment has met all four requirements a MEAS_* is outside every rule
and is refused; VERIFY, and every other instruction that asks for no measurement, needs none of them; only the
environment meets a requirement, one an event, in any order, and none is lost again. -/
def Obligations.MeasurementNeedsBootRequirements : Prop :=
  (∀ (i : Instr) (s : State), asksMeasurement i = true →
      (s.boot.busInitialised = false ∨ s.boot.busExclusive = false ∨ s.boot.parametersFixed = false
        ∨ s.boot.timeSourceStarted = false) →
      exec i s = .refused .bootRequirementsUnmet)
  ∧ (∀ (i : Instr) (s : State), asksMeasurement i = true →
      s.boot.busInitialised = true → s.boot.busExclusive = true → s.boot.parametersFixed = true →
      s.boot.timeSourceStarted = true → ∃ t, exec i s = .next t)
  ∧ (∀ (i : Instr) (s : State), asksMeasurement i = false → ∃ t, exec i s = .next t)
  ∧ (∀ s t : State, (∀ r, s.nextEvent ≠ .environment r) → step s = .next t → t.boot = s.boot)
  ∧ ∀ (s : State) (rest : List Event) (r : BootRequirement), s.schedule = .environment r :: rest →
      step s = .next { s with
        schedule := rest
        boot := match r with
          | .busInitialised => { s.boot with busInitialised := true }
          | .busExclusive => { s.boot with busExclusive := true }
          | .parametersFixed => { s.boot with parametersFixed := true }
          | .timeSourceStarted => { s.boot with timeSourceStarted := true } }

/-! ### The Sequencer and the tick (41_measurement_protocol.md R134 to R141) -/

/-- R135, R85: TRIGGER issues start, the trigger byte of KIND, end, and goes to CMD_SENT; nothing else changes. -/
def Obligations.TriggerSendsOneByte : Prop :=
  ∀ (s : State) (rest : List Event), s.schedule = .sequencer :: rest → s.seqState = 1 →
    step s = .next { s with
      schedule := rest
      seqState := 2
      busTrace := s.busTrace ++ [.startTransaction Config.devAddr,
        .writeByte (match s.kind with | .humidity => Config.cmdTrigRh | .temperature => Config.cmdTrigT),
        .endTransaction] }

/-- R136: CMD_SENT enters the polling loop. -/
def Obligations.CmdSentEntersPolling : Prop :=
  ∀ (s : State) (rest : List Event), s.schedule = .sequencer :: rest → s.seqState = 2 →
    step s = .next { s with schedule := rest, attempt := 0, delay := 10, seqState := 3 }

/-- R137: a tick counts DELAY down in POLL_WAIT, the poll is due when it reaches 0, so after exactly ten ticks of a full
delay; a tick elsewhere has no effect. -/
def Obligations.TickCountsTheDelay : Prop :=
  ∀ (s : State) (rest : List Event),
    (s.schedule = .tick :: rest →
      (s.seqState = 3 → s.delay = 1 → step s = .next { s with schedule := rest, delay := 0, seqState := 4 })
      ∧ (s.seqState = 3 → s.delay ≠ 1 → step s = .next { s with schedule := rest, delay := s.delay - 1 })
      ∧ (s.seqState ≠ 3 → step s = .next { s with schedule := rest }))
    ∧ (s.schedule = List.replicate 10 .tick ++ rest → s.seqState = 3 → s.delay = 10 →
      core.run 10 s = .next { s with schedule := rest, delay := 0, seqState := 4 })

/-- R56 (with log 3): the Adapter's answer is the next of the input list, or a free value when the list is empty; either
way taking it changes only the list and the counter of free values. -/
def Obligations.AdapterAnswersAreInputs : Prop :=
  ∀ s : State,
    (∀ n rest, s.availAnswers = n :: rest → s.nextAvailable = n ∧ s.takeAvailable = { s with availAnswers := rest })
    ∧ (s.availAnswers = [] → s.nextAvailable = Config.freeAvailable s.freeIndex
        ∧ s.takeAvailable = { s with freeIndex := s.freeIndex + 1 })
    ∧ (∀ b rest, s.byteAnswers = b :: rest → s.nextByte = b ∧ s.takeByte = { s with byteAnswers := rest })
    ∧ (s.byteAnswers = [] → s.nextByte = Config.freeByte s.freeIndex
        ∧ s.takeByte = { s with freeIndex := s.freeIndex + 1 })

/-- R138, R139: a poll that answers 3 goes to DATA_READY whatever ATTEMPT is; any other answer counts an attempt, records
an answer above 3 in ADAPTER_ERR, and waits again or, on the tenth, ends in TIMEOUT. No byte is read. -/
def Obligations.PollFindsThreeBytesOrFails : Prop :=
  ∀ (s : State) (rest : List Event) (n : Byte), s.schedule = .sequencer :: rest → s.seqState = 4 →
    s.nextAvailable = n →
    (n = 3 → step s = .next { s.takeAvailable with
      schedule := rest
      seqState := 5
      busTrace := s.busTrace ++ [.requestBytes Config.devAddr 3 3] })
    ∧ (n ≠ 3 → s.attempt ≠ 9 → step s = .next { s.takeAvailable with
      schedule := rest
      adapterErr := s.adapterErr || decide (3 < n.toNat)
      attempt := s.attempt + 1
      delay := 10
      seqState := 3
      busTrace := s.busTrace ++ [.requestBytes Config.devAddr 3 n] })
    ∧ (n ≠ 3 → s.attempt = 9 → step s = .next { s.takeAvailable with
      schedule := rest
      adapterErr := s.adapterErr || decide (3 < n.toNat)
      attempt := 10
      result := 998
      resultCode := .timeout
      seqState := 0
      busTrace := s.busTrace ++ [.requestBytes Config.devAddr 3 n] })

/-- R140, R86, R59: DATA_READY reads msb, lsb and checksum, in that order, whatever the Adapter answers. -/
def Obligations.DataReadyLatchesFrame : Prop :=
  ∀ (s : State) (rest : List Event), s.schedule = .sequencer :: rest → s.seqState = 5 →
    (∀ msb lsb chk later, s.byteAnswers = msb :: lsb :: chk :: later → step s = .next { s with
      schedule := rest
      byteAnswers := later
      seqRaw := msb ++ lsb
      seqChk := chk
      seqState := 6
      busTrace := s.busTrace ++ [.readByte msb, .readByte lsb, .readByte chk] })
    ∧ ∃ msb lsb chk later free, step s = .next { s with
      schedule := rest
      byteAnswers := later
      freeIndex := free
      seqRaw := msb ++ lsb
      seqChk := chk
      seqState := 6
      busTrace := s.busTrace ++ [.readByte msb, .readByte lsb, .readByte chk] }

/-- R141, R142: CRC_CHECK ends the measurement: OK with the raw value's bits 15 to 2 and zeros below when the verifier
passes, CRCFAIL with 999 when it fails; CRC_REM, CRC_PASS and CRC_VALID stay. -/
def Obligations.CrcCheckEndsMeasurement : Prop :=
  ∀ (s : State) (rest : List Event), s.schedule = .sequencer :: rest → s.seqState = 6 →
    (crc8vPass s.seqRaw s.seqChk = true → step s = .next
      { s with schedule := rest, result := s.seqRaw.extractLsb' 2 14 ++ 0b00#2, resultCode := .ok, seqState := 0 })
    ∧ (crc8vPass s.seqRaw s.seqChk = false → step s = .next
      { s with schedule := rest, result := 999, resultCode := .crcFail, seqState := 0 })

/-- R134: the Sequencer has no step in IDLE and POLL_WAIT; its event passes without effect there (log 2). -/
def Obligations.SequencerWaitsInIdleAndPollWait : Prop :=
  ∀ (s : State) (rest : List Event), s.schedule = .sequencer :: rest → (s.seqState = 0 ∨ s.seqState = 3) →
    step s = .next { s with schedule := rest }

/-- U16 (93_implementation_defined.md): a Sequencer step in SEQ_STATE 7 to 15 is stuck. -/
def Obligations.UnnamedSeqStateIsStuck : Prop :=
  ∀ (s : State) (rest : List Event), s.schedule = .sequencer :: rest → 7 ≤ s.seqState.toNat →
    step s = .fault .unnamedSeqState

/-- R144: humidity and temperature differ only in KIND and in the trigger byte: MEAS_RH and MEAS_T are accepted alike
but for KIND; with the other kind, each Sequencer step does the same but for KIND and, in TRIGGER, the byte written, and
so does each tick. -/
def Obligations.KindsDifferOnlyInTriggerByte : Prop :=
  (∀ s : State, s.boot.met = true → s.seqState = 0 →
      ∃ t, exec .measRh s = .next t ∧ exec .measT s = .next { t with kind := .temperature })
  ∧ (∀ (s t : State) (k : Kind), sequencerStep s = .next t →
      sequencerStep { s with kind := k } = .next (if s.seqState = 1
        then { t with kind := k, busTrace := s.busTrace ++ triggerTrace k } else { t with kind := k }))
  ∧ ∀ (s : State) (k : Kind), tick { s with kind := k } = { tick s with kind := k }

/-! ### The run: the Host's program, the order of steps, reset -/

/-- R63, R64, R91: a Host step performs the transaction at the Host's place: it is exec of the decoded instruction, with
the event taken from the schedule before and the Host moved to its next operation after, where exec goes on. -/
def Obligations.StepRunsDecodedInstruction : Prop :=
  ∀ (s : State) (rest : List Event) (w : Htw), s.schedule = .host :: rest →
    s.hostProgram[s.hostPc]? = some (.txn w) →
    (∀ t, exec (decode w) { s with schedule := rest } = .next t → step s = .next { t with hostPc := s.hostPc + 1 })
    ∧ (∀ r, exec (decode w) { s with schedule := rest } = .refused r → step s = .refused r)
    ∧ ∀ f, exec (decode w) { s with schedule := rest } ≠ .fault f

/-- Log 13, log 20: a table word placed by withFetchWord is what the next step runs, as the first and only operation of
the Host's program. -/
def Obligations.FetchWordIsRunNext : Prop :=
  ∀ (s : State) (nbits w : Nat) (i : Instr), decodeTableWord nbits w = some i →
    ∃ word, decode word = i
      ∧ (∀ t, exec i { s with hostProgram := [.txn word], hostPc := 0 } = .next t →
          step (s.withFetchWord nbits w) = .next { t with hostPc := 1 })
      ∧ ∀ r, exec i { s with hostProgram := [.txn word], hostPc := 0 } = .refused r →
          step (s.withFetchWord nbits w) = .refused r

/-- R92: `bz` and `bnz` test the value of the last `rd` under their mask. -/
def Obligations.HostBranchesTestLastRead : Prop :=
  ∀ (s : State) (rest : List Event) (v mask : Data) (target : Nat), s.schedule = .host :: rest → s.hostLast = some v →
    (s.hostProgram[s.hostPc]? = some (.bz target mask) → step s = .next
      { s with schedule := rest, hostPc := if v &&& mask = 0 then target else s.hostPc + 1 })
    ∧ (s.hostProgram[s.hostPc]? = some (.bnz target mask) → step s = .next
      { s with schedule := rest, hostPc := if v &&& mask = 0 then s.hostPc + 1 else target })

/-- R93: `wait_idle` goes round while BUSY = 1 and falls through when BUSY = 0, and changes no register of the block. -/
def Obligations.WaitIdleLoopsWhileBusy : Prop :=
  ∀ (s : State) (rest : List Event) (before later : List HostOp), s.schedule = .host :: .host :: rest →
    s.hostProgram = before ++ Asm.waitIdle before.length ++ later → s.hostPc = before.length →
    ∃ v : Data, v.getLsbD 0 = (s.seqState != 0) ∧ core.run 2 s = .next { s with
      schedule := rest
      hostLast := some v
      hostPc := if s.seqState = 0 then s.hostPc + 2 else s.hostPc }

/-- R210, R36, R211: reset puts every register R36 gives a value at that value, in one step, from every state, and no bus
primitive is issued. The model's own choice: the Host, the schedule and the boot requirements stand outside the block and
stay (log 19), and so do the Adapter's coming answers after a reset in IDLE (log 7). -/
def Obligations.ResetRestoresRegisters : Prop :=
  ∀ (s : State) (rest : List Event), s.schedule = .reset :: rest → ∃ t, step s = .next t
    ∧ t.seqState = 0 ∧ t.kind = .humidity ∧ t.resultCode = .none ∧ t.crcPass = false ∧ t.cmdErr = false
    ∧ t.adapterErr = false ∧ t.crcValid = false ∧ t.crcData = 0x0000 ∧ t.crcChk = 0x00 ∧ t.crcRem = 0x00
    ∧ t.result = 0x0000 ∧ t.attempt = 0 ∧ t.delay = 0 ∧ t.busTrace = s.busTrace
    ∧ t.boot = s.boot ∧ t.hostProgram = s.hostProgram ∧ t.hostPc = s.hostPc ∧ t.hostLast = s.hostLast
    ∧ t.schedule = rest
    ∧ (s.seqState = 0 → t.availAnswers = s.availAnswers ∧ t.byteAnswers = s.byteAnswers)

/-- R36: the values of the block's registers right after power-on (SEQ_RAW and SEQ_CHK, which R36 leaves unspecified,
are not part of it). -/
def Obligations.PowerOnValues : Prop :=
  State.reset.seqState = 0 ∧ State.reset.kind = .humidity ∧ State.reset.resultCode = .none
  ∧ State.reset.crcPass = false ∧ State.reset.cmdErr = false ∧ State.reset.adapterErr = false
  ∧ State.reset.crcValid = false ∧ State.reset.crcData = 0x0000 ∧ State.reset.crcChk = 0x00
  ∧ State.reset.crcRem = 0x00 ∧ State.reset.result = 0x0000 ∧ State.reset.attempt = 0 ∧ State.reset.delay = 0

/-- R24, R210: CMD_ERR and ADAPTER_ERR, once set, are cleared by reset and by no other step; a state with
either set is a faulted one. -/
def Obligations.OnlyResetClearsStickyFlags : Prop :=
  (∀ s t : State, step s = .next t → s.nextEvent ≠ .reset →
      (s.cmdErr = true → t.cmdErr = true) ∧ (s.adapterErr = true → t.adapterErr = true))
  ∧ (∀ s : State, s.nextEvent = .reset → ∃ t, step s = .next t ∧ t.cmdErr = false ∧ t.adapterErr = false)
  ∧ ∀ s : State, s.faulted = true ↔ s.cmdErr = true ∨ s.adapterErr = true

/-- R183: CMD_ERR is set by a CMD write of a reserved value, or of a MEAS_* while BUSY, and by nothing else. -/
def Obligations.CommandErrorHasTwoCauses : Prop :=
  ∀ s t : State, step s = .next t → s.cmdErr = false → t.cmdErr = true →
    s.nextEvent = .host ∧ ∃ w, s.hostProgram[s.hostPc]? = some (.txn w)
      ∧ ((∃ d : Data, decode w = .wr .cmd d ∧ 0x04 ≤ (d.extractLsb' 0 8).toNat)
        ∨ ((decode w = .measRh ∨ decode w = .measT) ∧ s.seqState ≠ 0))

/-- R184, R139: ADAPTER_ERR is set by a poll that answers more than 3, and by nothing else. -/
def Obligations.AdapterErrorHasOneCause : Prop :=
  ∀ s t : State, step s = .next t → s.adapterErr = false → t.adapterErr = true →
    s.nextEvent = .sequencer ∧ s.seqState = 4
      ∧ ∃ n : Byte, 3 < n.toNat ∧ t.busTrace = s.busTrace ++ [.requestBytes Config.devAddr 3 n]

/-- R143, R55: only the Sequencer issues bus primitives, in TRIGGER, POLL_REQ and DATA_READY; so none is issued in IDLE,
after any outcome, and only an accepted MEAS_* leaves IDLE. The trace only grows. -/
def Obligations.BusIsQuietUntilNextMeasurement : Prop :=
  ∀ s t : State, step s = .next t →
    s.busTrace <+: t.busTrace
    ∧ (t.busTrace ≠ s.busTrace →
        s.nextEvent = .sequencer ∧ (s.seqState = 1 ∨ s.seqState = 4 ∨ s.seqState = 5))
    ∧ (s.seqState = 0 → t.seqState ≠ 0 →
        s.nextEvent = .host ∧ ∃ w, s.hostProgram[s.hostPc]? = some (.txn w)
          ∧ (decode w = .measRh ∨ decode w = .measT))

/-- R58, R55: every primitive that carries an address carries DEV_ADDR, and every request is for 3 bytes: a property of
the trace that every step keeps. -/
def Obligations.BusAddressIsDeviceAddress : Prop :=
  ∀ s t : State, step s = .next t →
    (∀ a, BusEvent.startTransaction a ∈ s.busTrace → a = Config.devAddr) →
    (∀ a c n, BusEvent.requestBytes a c n ∈ s.busTrace → a = Config.devAddr ∧ c = 3) →
    (∀ a, BusEvent.startTransaction a ∈ t.busTrace → a = Config.devAddr)
    ∧ (∀ a c n, BusEvent.requestBytes a c n ∈ t.busTrace → a = Config.devAddr ∧ c = 3)

/-- R106, R141: VERIFY and the Sequencer are independent: a VERIFY before a Sequencer step or a tick leads where a VERIFY
after it leads. -/
def Obligations.VerifyCommutesWithSequencer : Prop :=
  ∀ (e : Event) (s t : State), (e = .sequencer ∨ e = .tick) → eventStep e s = .next t →
    ∃ s' t', exec .verify s = .next s' ∧ exec .verify t = .next t' ∧ eventStep e s' = .next t'

/-- R33, R182: SEQ_RAW and SEQ_CHK are not visible outside and are written before they are read: a step in any state
but CRC_CHECK does the same whatever they hold, and so does CRC_CHECK on two frames that both fail; after DATA_READY
nothing of the old values is left. -/
def Obligations.LatchedFrameIsHidden : Prop :=
  ∀ (s t : State) (raw : Data) (chk : Byte), step s = .next t →
    (s.seqState ≠ 6 ∨ (crc8vPass s.seqRaw s.seqChk = false ∧ crc8vPass raw chk = false)) →
    ∃ raw' chk', step { s with seqRaw := raw, seqChk := chk } = .next { t with seqRaw := raw', seqChk := chk' }
      ∧ (s.nextEvent = .sequencer → s.seqState = 5 → raw' = t.seqRaw ∧ chk' = t.seqChk)

/-! ### Whole-machine rules -/

/-- R24, R27 to R30, R32, R33, R61, R102, R214 (State.Inv lists which clause is which): the invariant of the block's registers
is kept by every step of every agent. -/
def Obligations.InvariantIsKept : Prop := ∀ s t : State, s.Inv → step s = .next t → t.Inv

/-- The invariant holds right after power-on. -/
def Obligations.InvariantAtPowerOn : Prop := State.reset.Inv

/-- R29, R134, R214: in a state of the invariant every event has a next state, but for a MEAS_* of the Host before the
boot requirements are met; so where they are met the machine never stops. -/
def Obligations.InvariantStatesGoOn : Prop :=
  ∀ s : State, s.Inv → (∃ t, step s = .next t)
    ∨ (step s = .refused .bootRequirementsUnmet ∧ s.boot.met = false ∧ s.nextEvent = .host
      ∧ ∃ w, s.hostProgram[s.hostPc]? = some (.txn w) ∧ (decode w = .measRh ∨ decode w = .measT))

/-- R27: RESULT alone tells an OK result from a failure by its bits 1 and 0. -/
def Obligations.ResultAloneTellsOutcome : Prop :=
  ∀ s : State, s.Inv → s.resultCode ≠ .none →
    (s.resultCode = .ok ↔ s.result.extractLsb' 0 2 = 0b00)
    ∧ (s.resultCode = .timeout ↔ s.result.extractLsb' 0 2 = 0b10)
    ∧ (s.resultCode = .crcFail ↔ s.result.extractLsb' 0 2 = 0b11)

/-- R187: the result fields are written once, by the measurement's last step: a step that starts and ends BUSY leaves
RESULT and RESULT_CODE as they are. -/
def Obligations.ResultWrittenByLastStepOnly : Prop :=
  ∀ s t : State, step s = .next t → s.seqState ≠ 0 → t.seqState ≠ 0 →
    t.result = s.result ∧ t.resultCode = s.resultCode

/-- R221, R147: whatever the Host, the clock, the environment and reset do in between, a measurement from its accept on
takes at most 14 Sequencer steps and at most 100 counted ticks; when it has ended, a TIMEOUT took exactly 12 and 100, and
an OK or CRCFAIL on poll k = ATTEMPT + 1 took exactly 4 + k and 10·k. It holds of faulted runs too, so R224's premises are
not needed for it. -/
def Obligations.MeasurementStepAndTickCounts : Prop :=
  ∀ (s t : State) (steps ticks : Nat) (cut : Bool), s.Inv → s.seqState = 1 → Measuring s steps ticks cut t →
    steps ≤ 14 ∧ ticks ≤ 100
    ∧ (t.resultCode = .timeout → steps = 12 ∧ ticks = 100)
    ∧ (t.resultCode = .ok ∨ t.resultCode = .crcFail →
        steps = 5 + t.attempt.toNat ∧ ticks = 10 * (t.attempt.toNat + 1))

/-- R147 (R139, R141 for the outcome): what a measurement that has ended did and what it reports: the trigger, then
either ten polls without 3 bytes and TIMEOUT, or ATTEMPT such polls, one that found 3 bytes, three reads, and OK or
CRCFAIL as the verifier says of the bytes read; with its Sequencer steps and counted ticks. As in R147 the run has no
reset. It holds of faulted runs too; CleanRunOutcome is the claim with R224's premises. -/
def Obligations.MeasurementTraceAndOutcome : Prop :=
  ∀ (s t : State) (steps ticks : Nat), s.Inv → MeasurementRun s steps ticks false t →
    t.kind = s.kind
    ∧ ∃ failed : List Byte, (∀ n ∈ failed, n ≠ 3) ∧ t.attempt.toNat = failed.length
      ∧ ((failed.length = 10 ∧ t.resultCode = .timeout ∧ t.result = 998 ∧ steps = 2 + 10 ∧ ticks = 100
          ∧ t.busTrace = s.busTrace ++ triggerTrace s.kind ++ pollTrace failed)
        ∨ ∃ msb lsb chk k, failed.length = k - 1 ∧ 1 ≤ k ∧ k ≤ 10 ∧ steps = 2 + k + 2 ∧ ticks = 10 * k
          ∧ t.busTrace = s.busTrace ++ triggerTrace s.kind ++ pollTrace (failed ++ [3])
              ++ [.readByte msb, .readByte lsb, .readByte chk]
          ∧ ((crc8vPass (msb ++ lsb) chk = true ∧ t.resultCode = .ok ∧ t.result = (msb ++ lsb) &&& 0xFFFC)
            ∨ (crc8vPass (msb ++ lsb) chk = false ∧ t.resultCode = .crcFail ∧ t.result = 999)))

/-- R224, R211, R57: the outcome tuple of a measurement run that ends with CMD_ERR = 0 and ADAPTER_ERR = 0: nothing when a
reset cut it; else no flag was set when it began, every failed poll answered 0, 1 or 2, and the tuple is that of TIMEOUT
after ten of them, or of OK or CRCFAIL as the verifier says of the three bytes that ended the bus trace. -/
def Obligations.CleanRunOutcome : Prop :=
  ∀ (s t : State) (steps ticks : Nat) (cut : Bool), s.Inv → MeasurementRun s steps ticks cut t →
    t.cmdErr = false → t.adapterErr = false →
    (cut = true ∧ t.runOutcome = ⟨.none, 0x0000, 0, false, false⟩)
    ∨ (cut = false ∧ s.faulted = false ∧ ∃ failed : List Byte, (∀ n ∈ failed, n.toNat ≤ 2)
      ∧ ((failed.length = 10 ∧ steps = 12 ∧ ticks = 100
          ∧ t.busTrace = s.busTrace ++ triggerTrace s.kind ++ pollTrace failed
          ∧ t.runOutcome = ⟨.timeout, 998, 10, false, false⟩)
        ∨ ∃ msb lsb chk, failed.length ≤ 9 ∧ steps = 5 + failed.length ∧ ticks = 10 * (failed.length + 1)
          ∧ t.busTrace = s.busTrace ++ triggerTrace s.kind ++ pollTrace (failed ++ [3])
              ++ [.readByte msb, .readByte lsb, .readByte chk]
          ∧ t.runOutcome = if crc8vPass (msb ++ lsb) chk = true
              then ⟨.ok, (msb ++ lsb) &&& 0xFFFC, BitVec.ofNat 4 failed.length, false, false⟩
              else ⟨.crcFail, 999, BitVec.ofNat 4 failed.length, false, false⟩))

/-- R222: in every unending run that is weakly fair to the Sequencer and to the Time Source, a measurement ends, whatever
the Host does and whatever the Adapter answers: it comes to a first IDLE state, with an outcome unless a reset cut it. -/
def Obligations.FairMeasurementEnds : Prop :=
  ∀ (events : Nat → Event) (states : Nat → State), IsRun events states → WeaklyFair events states →
    (states 0).Inv → (states 0).seqState ≠ 0 →
    ∃ n, (states n).seqState = 0 ∧ (∀ m < n, (states m).seqState ≠ 0)
      ∧ ((states n).resultCode ≠ .none ∨ ∃ m < n, events m = .reset)

/-- R222, R134, R137: a measurement moves on only by its own agent: without a reset, only a tick changes POLL_WAIT or its
DELAY, and only a Sequencer step any other state of a measurement. -/
def Obligations.ProgressNeedsItsAgent : Prop :=
  ∀ s t : State, step s = .next t → s.seqState ≠ 0 → s.nextEvent ≠ .reset →
    (s.seqState = 3 → s.nextEvent ≠ .tick → t.seqState = 3 ∧ t.delay = s.delay)
    ∧ (s.seqState ≠ 3 → s.nextEvent ≠ .sequencer → t.seqState = s.seqState)

/-- R63 (with log 1): every finite part of every run of the agents is a run of the machine, on the schedule of its
events; what FairMeasurementEnds says of runs is said of the machine. -/
def Obligations.RunsFollowSchedules : Prop :=
  ∀ (events : Nat → Event) (states : Nat → State), IsRun events states → ∀ (n : Nat) (rest : List Event),
    core.run n { states 0 with schedule := (List.range n).map events ++ rest }
      = .next { states n with schedule := rest }

/-- R221, R222: served by the Sequencer and the clock, a measurement ends, whatever the Adapter answers. -/
def Obligations.ServedMeasurementEnds : Prop :=
  ∀ (s : State) (rest : List Event), s.Inv → s.seqState = 1 → s.schedule = measurementSchedule ++ rest →
    ∃ t, core.run measurementSchedule.length s = .next t ∧ t.seqState = 0 ∧ t.resultCode ≠ .none
      ∧ t.schedule = rest

/-- R11: the two trigger bytes are distinct. -/
def Obligations.TriggerBytesAreDistinct : Prop := triggerByte .humidity ≠ triggerByte .temperature
end

