-- ==== Sys2Proof/Laws/Decode.lean ====
section
/-! SUPPORT. The fields of a host transaction word and the register indices, each the other's inverse. -/

namespace Sys2Proof

@[simp] theorem Reg.ofIndex_index (r : Reg) : Reg.ofIndex r.index = r := by cases r <;> rfl

@[simp] theorem Reg.index_ofIndex (idx : BitVec 3) : (Reg.ofIndex idx).index = idx := by
  revert idx; decide

@[simp] theorem htwWe_htwOf (we : Bool) (idx : BitVec 3) (data : Data) : htwWe (htwOf we idx data) = we := by
  simp only [htwWe, htwOf, BitVec.getLsbD_append]
  cases we <;> rfl

@[simp] theorem htwIdx_htwOf (we : Bool) (idx : BitVec 3) (data : Data) : htwIdx (htwOf we idx data) = idx := by
  ext i hi
  simp only [htwIdx, htwOf, BitVec.getElem_extractLsb', BitVec.getLsbD_append]
  have h1 : ¬ 16 + i < 16 := by omega
  have h3 : 16 + i - 16 = i := by omega
  have h2 : i < 3 := hi
  simp [h1, h3, h2, BitVec.getLsbD_eq_getElem]

@[simp] theorem htwData_htwOf (we : Bool) (idx : BitVec 3) (data : Data) : htwData (htwOf we idx data) = data := by
  ext i hi
  simp only [htwData, htwOf, BitVec.getElem_extractLsb', BitVec.getLsbD_append]
  simp [hi, BitVec.getLsbD_eq_getElem]

/-- A word is made of its three fields. -/
theorem htwOf_fields (w : Htw) : htwOf (htwWe w) (htwIdx w) (htwData w) = w := by
  ext i hi
  simp only [htwOf, htwWe, htwIdx, htwData, ← BitVec.getLsbD_eq_getElem, BitVec.getLsbD_append]
  by_cases h : i < 16
  · simp [h, hi]
  · by_cases h2 : i - 16 < 3
    · have h3 : 16 + (i - 16) = i := by omega
      simp [h, h2, h3]
    · have h4 : i = 19 := by omega
      subst h4
      simp

/-- A word whose fields are given decodes by its fields alone (R91). -/
theorem decode_htwOf (we : Bool) (idx : BitVec 3) (data : Data) : decode (htwOf we idx data) =
    if we then decodeWrite (Reg.ofIndex idx) data else .rd (Reg.ofIndex idx) := by
  simp [decode]

/-- A reserved CMD value is a write of CMD (R84). -/
theorem decodeWrite_reserved {data : Data} (h : 4 ≤ (data.setWidth 8).toNat) :
    decodeWrite .cmd data = .wr .cmd data := by
  have ne : ∀ k : Byte, k.toNat < 4 → data.setWidth 8 ≠ k := fun k hk he => by rw [he] at h; omega
  simp only [decodeWrite, decodeCmd8]
  rw [if_neg (ne _ (by decide)), if_neg (ne _ (by decide)), if_neg (ne _ (by decide)), if_neg (ne _ (by decide))]
  rfl

end Sys2Proof
end

