-- ==== Sys2Proof/Laws/State.lean ====
section
/-! SUPPORT. One lemma per field of State per update, true by rfl, so that no later proof unfolds a record update. -/

namespace Sys2Proof.Machine

variable (s : State)

/-! ### recordCmdErr -/

@[simp] theorem recordCmdErr_seqState : (recordCmdErr s).seqState = s.seqState := rfl
@[simp] theorem recordCmdErr_kind : (recordCmdErr s).kind = s.kind := rfl
@[simp] theorem recordCmdErr_resultCode : (recordCmdErr s).resultCode = s.resultCode := rfl
@[simp] theorem recordCmdErr_crcPass : (recordCmdErr s).crcPass = s.crcPass := rfl
@[simp] theorem recordCmdErr_cmdErr : (recordCmdErr s).cmdErr = true := rfl
@[simp] theorem recordCmdErr_adapterErr : (recordCmdErr s).adapterErr = s.adapterErr := rfl
@[simp] theorem recordCmdErr_crcValid : (recordCmdErr s).crcValid = s.crcValid := rfl
@[simp] theorem recordCmdErr_crcData : (recordCmdErr s).crcData = s.crcData := rfl
@[simp] theorem recordCmdErr_crcChk : (recordCmdErr s).crcChk = s.crcChk := rfl
@[simp] theorem recordCmdErr_crcRem : (recordCmdErr s).crcRem = s.crcRem := rfl
@[simp] theorem recordCmdErr_result : (recordCmdErr s).result = s.result := rfl
@[simp] theorem recordCmdErr_attempt : (recordCmdErr s).attempt = s.attempt := rfl
@[simp] theorem recordCmdErr_delay : (recordCmdErr s).delay = s.delay := rfl
@[simp] theorem recordCmdErr_seqRaw : (recordCmdErr s).seqRaw = s.seqRaw := rfl
@[simp] theorem recordCmdErr_seqChk : (recordCmdErr s).seqChk = s.seqChk := rfl
@[simp] theorem recordCmdErr_hostProgram : (recordCmdErr s).hostProgram = s.hostProgram := rfl
@[simp] theorem recordCmdErr_hostPc : (recordCmdErr s).hostPc = s.hostPc := rfl
@[simp] theorem recordCmdErr_hostLast : (recordCmdErr s).hostLast = s.hostLast := rfl
@[simp] theorem recordCmdErr_schedule : (recordCmdErr s).schedule = s.schedule := rfl
@[simp] theorem recordCmdErr_availAnswers : (recordCmdErr s).availAnswers = s.availAnswers := rfl
@[simp] theorem recordCmdErr_byteAnswers : (recordCmdErr s).byteAnswers = s.byteAnswers := rfl
@[simp] theorem recordCmdErr_busTrace : (recordCmdErr s).busTrace = s.busTrace := rfl
@[simp] theorem recordCmdErr_boot : (recordCmdErr s).boot = s.boot := rfl
@[simp] theorem recordCmdErr_freeIndex : (recordCmdErr s).freeIndex = s.freeIndex := rfl

/-! ### recordAdapterErr -/

@[simp] theorem recordAdapterErr_seqState : (recordAdapterErr s).seqState = s.seqState := rfl
@[simp] theorem recordAdapterErr_kind : (recordAdapterErr s).kind = s.kind := rfl
@[simp] theorem recordAdapterErr_resultCode : (recordAdapterErr s).resultCode = s.resultCode := rfl
@[simp] theorem recordAdapterErr_crcPass : (recordAdapterErr s).crcPass = s.crcPass := rfl
@[simp] theorem recordAdapterErr_cmdErr : (recordAdapterErr s).cmdErr = s.cmdErr := rfl
@[simp] theorem recordAdapterErr_adapterErr : (recordAdapterErr s).adapterErr = true := rfl
@[simp] theorem recordAdapterErr_crcValid : (recordAdapterErr s).crcValid = s.crcValid := rfl
@[simp] theorem recordAdapterErr_crcData : (recordAdapterErr s).crcData = s.crcData := rfl
@[simp] theorem recordAdapterErr_crcChk : (recordAdapterErr s).crcChk = s.crcChk := rfl
@[simp] theorem recordAdapterErr_crcRem : (recordAdapterErr s).crcRem = s.crcRem := rfl
@[simp] theorem recordAdapterErr_result : (recordAdapterErr s).result = s.result := rfl
@[simp] theorem recordAdapterErr_attempt : (recordAdapterErr s).attempt = s.attempt := rfl
@[simp] theorem recordAdapterErr_delay : (recordAdapterErr s).delay = s.delay := rfl
@[simp] theorem recordAdapterErr_seqRaw : (recordAdapterErr s).seqRaw = s.seqRaw := rfl
@[simp] theorem recordAdapterErr_seqChk : (recordAdapterErr s).seqChk = s.seqChk := rfl
@[simp] theorem recordAdapterErr_hostProgram : (recordAdapterErr s).hostProgram = s.hostProgram := rfl
@[simp] theorem recordAdapterErr_hostPc : (recordAdapterErr s).hostPc = s.hostPc := rfl
@[simp] theorem recordAdapterErr_hostLast : (recordAdapterErr s).hostLast = s.hostLast := rfl
@[simp] theorem recordAdapterErr_schedule : (recordAdapterErr s).schedule = s.schedule := rfl
@[simp] theorem recordAdapterErr_availAnswers : (recordAdapterErr s).availAnswers = s.availAnswers := rfl
@[simp] theorem recordAdapterErr_byteAnswers : (recordAdapterErr s).byteAnswers = s.byteAnswers := rfl
@[simp] theorem recordAdapterErr_busTrace : (recordAdapterErr s).busTrace = s.busTrace := rfl
@[simp] theorem recordAdapterErr_boot : (recordAdapterErr s).boot = s.boot := rfl
@[simp] theorem recordAdapterErr_freeIndex : (recordAdapterErr s).freeIndex = s.freeIndex := rfl

/-! ### endMeasurement -/

@[simp] theorem endMeasurement_seqState (code : ResultCode) (value : Data) : (endMeasurement code value s).seqState = seqIdle := rfl
@[simp] theorem endMeasurement_kind (code : ResultCode) (value : Data) : (endMeasurement code value s).kind = s.kind := rfl
@[simp] theorem endMeasurement_resultCode (code : ResultCode) (value : Data) : (endMeasurement code value s).resultCode = code := rfl
@[simp] theorem endMeasurement_crcPass (code : ResultCode) (value : Data) : (endMeasurement code value s).crcPass = s.crcPass := rfl
@[simp] theorem endMeasurement_cmdErr (code : ResultCode) (value : Data) : (endMeasurement code value s).cmdErr = s.cmdErr := rfl
@[simp] theorem endMeasurement_adapterErr (code : ResultCode) (value : Data) : (endMeasurement code value s).adapterErr = s.adapterErr := rfl
@[simp] theorem endMeasurement_crcValid (code : ResultCode) (value : Data) : (endMeasurement code value s).crcValid = s.crcValid := rfl
@[simp] theorem endMeasurement_crcData (code : ResultCode) (value : Data) : (endMeasurement code value s).crcData = s.crcData := rfl
@[simp] theorem endMeasurement_crcChk (code : ResultCode) (value : Data) : (endMeasurement code value s).crcChk = s.crcChk := rfl
@[simp] theorem endMeasurement_crcRem (code : ResultCode) (value : Data) : (endMeasurement code value s).crcRem = s.crcRem := rfl
@[simp] theorem endMeasurement_result (code : ResultCode) (value : Data) : (endMeasurement code value s).result = value := rfl
@[simp] theorem endMeasurement_attempt (code : ResultCode) (value : Data) : (endMeasurement code value s).attempt = s.attempt := rfl
@[simp] theorem endMeasurement_delay (code : ResultCode) (value : Data) : (endMeasurement code value s).delay = s.delay := rfl
@[simp] theorem endMeasurement_seqRaw (code : ResultCode) (value : Data) : (endMeasurement code value s).seqRaw = s.seqRaw := rfl
@[simp] theorem endMeasurement_seqChk (code : ResultCode) (value : Data) : (endMeasurement code value s).seqChk = s.seqChk := rfl
@[simp] theorem endMeasurement_hostProgram (code : ResultCode) (value : Data) : (endMeasurement code value s).hostProgram = s.hostProgram := rfl
@[simp] theorem endMeasurement_hostPc (code : ResultCode) (value : Data) : (endMeasurement code value s).hostPc = s.hostPc := rfl
@[simp] theorem endMeasurement_hostLast (code : ResultCode) (value : Data) : (endMeasurement code value s).hostLast = s.hostLast := rfl
@[simp] theorem endMeasurement_schedule (code : ResultCode) (value : Data) : (endMeasurement code value s).schedule = s.schedule := rfl
@[simp] theorem endMeasurement_availAnswers (code : ResultCode) (value : Data) : (endMeasurement code value s).availAnswers = s.availAnswers := rfl
@[simp] theorem endMeasurement_byteAnswers (code : ResultCode) (value : Data) : (endMeasurement code value s).byteAnswers = s.byteAnswers := rfl
@[simp] theorem endMeasurement_busTrace (code : ResultCode) (value : Data) : (endMeasurement code value s).busTrace = s.busTrace := rfl
@[simp] theorem endMeasurement_boot (code : ResultCode) (value : Data) : (endMeasurement code value s).boot = s.boot := rfl
@[simp] theorem endMeasurement_freeIndex (code : ResultCode) (value : Data) : (endMeasurement code value s).freeIndex = s.freeIndex := rfl

/-! ### goto -/

@[simp] theorem goto_seqState (st : BitVec 4) : (goto st s).seqState = st := rfl
@[simp] theorem goto_kind (st : BitVec 4) : (goto st s).kind = s.kind := rfl
@[simp] theorem goto_resultCode (st : BitVec 4) : (goto st s).resultCode = s.resultCode := rfl
@[simp] theorem goto_crcPass (st : BitVec 4) : (goto st s).crcPass = s.crcPass := rfl
@[simp] theorem goto_cmdErr (st : BitVec 4) : (goto st s).cmdErr = s.cmdErr := rfl
@[simp] theorem goto_adapterErr (st : BitVec 4) : (goto st s).adapterErr = s.adapterErr := rfl
@[simp] theorem goto_crcValid (st : BitVec 4) : (goto st s).crcValid = s.crcValid := rfl
@[simp] theorem goto_crcData (st : BitVec 4) : (goto st s).crcData = s.crcData := rfl
@[simp] theorem goto_crcChk (st : BitVec 4) : (goto st s).crcChk = s.crcChk := rfl
@[simp] theorem goto_crcRem (st : BitVec 4) : (goto st s).crcRem = s.crcRem := rfl
@[simp] theorem goto_result (st : BitVec 4) : (goto st s).result = s.result := rfl
@[simp] theorem goto_attempt (st : BitVec 4) : (goto st s).attempt = s.attempt := rfl
@[simp] theorem goto_delay (st : BitVec 4) : (goto st s).delay = s.delay := rfl
@[simp] theorem goto_seqRaw (st : BitVec 4) : (goto st s).seqRaw = s.seqRaw := rfl
@[simp] theorem goto_seqChk (st : BitVec 4) : (goto st s).seqChk = s.seqChk := rfl
@[simp] theorem goto_hostProgram (st : BitVec 4) : (goto st s).hostProgram = s.hostProgram := rfl
@[simp] theorem goto_hostPc (st : BitVec 4) : (goto st s).hostPc = s.hostPc := rfl
@[simp] theorem goto_hostLast (st : BitVec 4) : (goto st s).hostLast = s.hostLast := rfl
@[simp] theorem goto_schedule (st : BitVec 4) : (goto st s).schedule = s.schedule := rfl
@[simp] theorem goto_availAnswers (st : BitVec 4) : (goto st s).availAnswers = s.availAnswers := rfl
@[simp] theorem goto_byteAnswers (st : BitVec 4) : (goto st s).byteAnswers = s.byteAnswers := rfl
@[simp] theorem goto_busTrace (st : BitVec 4) : (goto st s).busTrace = s.busTrace := rfl
@[simp] theorem goto_boot (st : BitVec 4) : (goto st s).boot = s.boot := rfl
@[simp] theorem goto_freeIndex (st : BitVec 4) : (goto st s).freeIndex = s.freeIndex := rfl

/-! ### enterPollWait -/

@[simp] theorem enterPollWait_seqState : (enterPollWait s).seqState = seqPollWait := rfl
@[simp] theorem enterPollWait_kind : (enterPollWait s).kind = s.kind := rfl
@[simp] theorem enterPollWait_resultCode : (enterPollWait s).resultCode = s.resultCode := rfl
@[simp] theorem enterPollWait_crcPass : (enterPollWait s).crcPass = s.crcPass := rfl
@[simp] theorem enterPollWait_cmdErr : (enterPollWait s).cmdErr = s.cmdErr := rfl
@[simp] theorem enterPollWait_adapterErr : (enterPollWait s).adapterErr = s.adapterErr := rfl
@[simp] theorem enterPollWait_crcValid : (enterPollWait s).crcValid = s.crcValid := rfl
@[simp] theorem enterPollWait_crcData : (enterPollWait s).crcData = s.crcData := rfl
@[simp] theorem enterPollWait_crcChk : (enterPollWait s).crcChk = s.crcChk := rfl
@[simp] theorem enterPollWait_crcRem : (enterPollWait s).crcRem = s.crcRem := rfl
@[simp] theorem enterPollWait_result : (enterPollWait s).result = s.result := rfl
@[simp] theorem enterPollWait_attempt : (enterPollWait s).attempt = s.attempt := rfl
@[simp] theorem enterPollWait_delay : (enterPollWait s).delay = pollDelay := rfl
@[simp] theorem enterPollWait_seqRaw : (enterPollWait s).seqRaw = s.seqRaw := rfl
@[simp] theorem enterPollWait_seqChk : (enterPollWait s).seqChk = s.seqChk := rfl
@[simp] theorem enterPollWait_hostProgram : (enterPollWait s).hostProgram = s.hostProgram := rfl
@[simp] theorem enterPollWait_hostPc : (enterPollWait s).hostPc = s.hostPc := rfl
@[simp] theorem enterPollWait_hostLast : (enterPollWait s).hostLast = s.hostLast := rfl
@[simp] theorem enterPollWait_schedule : (enterPollWait s).schedule = s.schedule := rfl
@[simp] theorem enterPollWait_availAnswers : (enterPollWait s).availAnswers = s.availAnswers := rfl
@[simp] theorem enterPollWait_byteAnswers : (enterPollWait s).byteAnswers = s.byteAnswers := rfl
@[simp] theorem enterPollWait_busTrace : (enterPollWait s).busTrace = s.busTrace := rfl
@[simp] theorem enterPollWait_boot : (enterPollWait s).boot = s.boot := rfl
@[simp] theorem enterPollWait_freeIndex : (enterPollWait s).freeIndex = s.freeIndex := rfl

/-! ### setAttempt -/

@[simp] theorem setAttempt_seqState (n : BitVec 4) : (setAttempt n s).seqState = s.seqState := rfl
@[simp] theorem setAttempt_kind (n : BitVec 4) : (setAttempt n s).kind = s.kind := rfl
@[simp] theorem setAttempt_resultCode (n : BitVec 4) : (setAttempt n s).resultCode = s.resultCode := rfl
@[simp] theorem setAttempt_crcPass (n : BitVec 4) : (setAttempt n s).crcPass = s.crcPass := rfl
@[simp] theorem setAttempt_cmdErr (n : BitVec 4) : (setAttempt n s).cmdErr = s.cmdErr := rfl
@[simp] theorem setAttempt_adapterErr (n : BitVec 4) : (setAttempt n s).adapterErr = s.adapterErr := rfl
@[simp] theorem setAttempt_crcValid (n : BitVec 4) : (setAttempt n s).crcValid = s.crcValid := rfl
@[simp] theorem setAttempt_crcData (n : BitVec 4) : (setAttempt n s).crcData = s.crcData := rfl
@[simp] theorem setAttempt_crcChk (n : BitVec 4) : (setAttempt n s).crcChk = s.crcChk := rfl
@[simp] theorem setAttempt_crcRem (n : BitVec 4) : (setAttempt n s).crcRem = s.crcRem := rfl
@[simp] theorem setAttempt_result (n : BitVec 4) : (setAttempt n s).result = s.result := rfl
@[simp] theorem setAttempt_attempt (n : BitVec 4) : (setAttempt n s).attempt = n := rfl
@[simp] theorem setAttempt_delay (n : BitVec 4) : (setAttempt n s).delay = s.delay := rfl
@[simp] theorem setAttempt_seqRaw (n : BitVec 4) : (setAttempt n s).seqRaw = s.seqRaw := rfl
@[simp] theorem setAttempt_seqChk (n : BitVec 4) : (setAttempt n s).seqChk = s.seqChk := rfl
@[simp] theorem setAttempt_hostProgram (n : BitVec 4) : (setAttempt n s).hostProgram = s.hostProgram := rfl
@[simp] theorem setAttempt_hostPc (n : BitVec 4) : (setAttempt n s).hostPc = s.hostPc := rfl
@[simp] theorem setAttempt_hostLast (n : BitVec 4) : (setAttempt n s).hostLast = s.hostLast := rfl
@[simp] theorem setAttempt_schedule (n : BitVec 4) : (setAttempt n s).schedule = s.schedule := rfl
@[simp] theorem setAttempt_availAnswers (n : BitVec 4) : (setAttempt n s).availAnswers = s.availAnswers := rfl
@[simp] theorem setAttempt_byteAnswers (n : BitVec 4) : (setAttempt n s).byteAnswers = s.byteAnswers := rfl
@[simp] theorem setAttempt_busTrace (n : BitVec 4) : (setAttempt n s).busTrace = s.busTrace := rfl
@[simp] theorem setAttempt_boot (n : BitVec 4) : (setAttempt n s).boot = s.boot := rfl
@[simp] theorem setAttempt_freeIndex (n : BitVec 4) : (setAttempt n s).freeIndex = s.freeIndex := rfl

/-! ### countDown -/

@[simp] theorem countDown_seqState : (countDown s).seqState = s.seqState := rfl
@[simp] theorem countDown_kind : (countDown s).kind = s.kind := rfl
@[simp] theorem countDown_resultCode : (countDown s).resultCode = s.resultCode := rfl
@[simp] theorem countDown_crcPass : (countDown s).crcPass = s.crcPass := rfl
@[simp] theorem countDown_cmdErr : (countDown s).cmdErr = s.cmdErr := rfl
@[simp] theorem countDown_adapterErr : (countDown s).adapterErr = s.adapterErr := rfl
@[simp] theorem countDown_crcValid : (countDown s).crcValid = s.crcValid := rfl
@[simp] theorem countDown_crcData : (countDown s).crcData = s.crcData := rfl
@[simp] theorem countDown_crcChk : (countDown s).crcChk = s.crcChk := rfl
@[simp] theorem countDown_crcRem : (countDown s).crcRem = s.crcRem := rfl
@[simp] theorem countDown_result : (countDown s).result = s.result := rfl
@[simp] theorem countDown_attempt : (countDown s).attempt = s.attempt := rfl
@[simp] theorem countDown_delay : (countDown s).delay = s.delay - 1 := rfl
@[simp] theorem countDown_seqRaw : (countDown s).seqRaw = s.seqRaw := rfl
@[simp] theorem countDown_seqChk : (countDown s).seqChk = s.seqChk := rfl
@[simp] theorem countDown_hostProgram : (countDown s).hostProgram = s.hostProgram := rfl
@[simp] theorem countDown_hostPc : (countDown s).hostPc = s.hostPc := rfl
@[simp] theorem countDown_hostLast : (countDown s).hostLast = s.hostLast := rfl
@[simp] theorem countDown_schedule : (countDown s).schedule = s.schedule := rfl
@[simp] theorem countDown_availAnswers : (countDown s).availAnswers = s.availAnswers := rfl
@[simp] theorem countDown_byteAnswers : (countDown s).byteAnswers = s.byteAnswers := rfl
@[simp] theorem countDown_busTrace : (countDown s).busTrace = s.busTrace := rfl
@[simp] theorem countDown_boot : (countDown s).boot = s.boot := rfl
@[simp] theorem countDown_freeIndex : (countDown s).freeIndex = s.freeIndex := rfl

/-! ### latchFrame -/

@[simp] theorem latchFrame_seqState (raw : Data) (chk : Byte) : (latchFrame raw chk s).seqState = s.seqState := rfl
@[simp] theorem latchFrame_kind (raw : Data) (chk : Byte) : (latchFrame raw chk s).kind = s.kind := rfl
@[simp] theorem latchFrame_resultCode (raw : Data) (chk : Byte) : (latchFrame raw chk s).resultCode = s.resultCode := rfl
@[simp] theorem latchFrame_crcPass (raw : Data) (chk : Byte) : (latchFrame raw chk s).crcPass = s.crcPass := rfl
@[simp] theorem latchFrame_cmdErr (raw : Data) (chk : Byte) : (latchFrame raw chk s).cmdErr = s.cmdErr := rfl
@[simp] theorem latchFrame_adapterErr (raw : Data) (chk : Byte) : (latchFrame raw chk s).adapterErr = s.adapterErr := rfl
@[simp] theorem latchFrame_crcValid (raw : Data) (chk : Byte) : (latchFrame raw chk s).crcValid = s.crcValid := rfl
@[simp] theorem latchFrame_crcData (raw : Data) (chk : Byte) : (latchFrame raw chk s).crcData = s.crcData := rfl
@[simp] theorem latchFrame_crcChk (raw : Data) (chk : Byte) : (latchFrame raw chk s).crcChk = s.crcChk := rfl
@[simp] theorem latchFrame_crcRem (raw : Data) (chk : Byte) : (latchFrame raw chk s).crcRem = s.crcRem := rfl
@[simp] theorem latchFrame_result (raw : Data) (chk : Byte) : (latchFrame raw chk s).result = s.result := rfl
@[simp] theorem latchFrame_attempt (raw : Data) (chk : Byte) : (latchFrame raw chk s).attempt = s.attempt := rfl
@[simp] theorem latchFrame_delay (raw : Data) (chk : Byte) : (latchFrame raw chk s).delay = s.delay := rfl
@[simp] theorem latchFrame_seqRaw (raw : Data) (chk : Byte) : (latchFrame raw chk s).seqRaw = raw := rfl
@[simp] theorem latchFrame_seqChk (raw : Data) (chk : Byte) : (latchFrame raw chk s).seqChk = chk := rfl
@[simp] theorem latchFrame_hostProgram (raw : Data) (chk : Byte) : (latchFrame raw chk s).hostProgram = s.hostProgram := rfl
@[simp] theorem latchFrame_hostPc (raw : Data) (chk : Byte) : (latchFrame raw chk s).hostPc = s.hostPc := rfl
@[simp] theorem latchFrame_hostLast (raw : Data) (chk : Byte) : (latchFrame raw chk s).hostLast = s.hostLast := rfl
@[simp] theorem latchFrame_schedule (raw : Data) (chk : Byte) : (latchFrame raw chk s).schedule = s.schedule := rfl
@[simp] theorem latchFrame_availAnswers (raw : Data) (chk : Byte) : (latchFrame raw chk s).availAnswers = s.availAnswers := rfl
@[simp] theorem latchFrame_byteAnswers (raw : Data) (chk : Byte) : (latchFrame raw chk s).byteAnswers = s.byteAnswers := rfl
@[simp] theorem latchFrame_busTrace (raw : Data) (chk : Byte) : (latchFrame raw chk s).busTrace = s.busTrace := rfl
@[simp] theorem latchFrame_boot (raw : Data) (chk : Byte) : (latchFrame raw chk s).boot = s.boot := rfl
@[simp] theorem latchFrame_freeIndex (raw : Data) (chk : Byte) : (latchFrame raw chk s).freeIndex = s.freeIndex := rfl

/-! ### writeCrcData -/

@[simp] theorem writeCrcData_seqState (data : Data) : (writeCrcData data s).seqState = s.seqState := rfl
@[simp] theorem writeCrcData_kind (data : Data) : (writeCrcData data s).kind = s.kind := rfl
@[simp] theorem writeCrcData_resultCode (data : Data) : (writeCrcData data s).resultCode = s.resultCode := rfl
@[simp] theorem writeCrcData_crcPass (data : Data) : (writeCrcData data s).crcPass = s.crcPass := rfl
@[simp] theorem writeCrcData_cmdErr (data : Data) : (writeCrcData data s).cmdErr = s.cmdErr := rfl
@[simp] theorem writeCrcData_adapterErr (data : Data) : (writeCrcData data s).adapterErr = s.adapterErr := rfl
@[simp] theorem writeCrcData_crcValid (data : Data) : (writeCrcData data s).crcValid = s.crcValid := rfl
@[simp] theorem writeCrcData_crcData (data : Data) : (writeCrcData data s).crcData = data := rfl
@[simp] theorem writeCrcData_crcChk (data : Data) : (writeCrcData data s).crcChk = s.crcChk := rfl
@[simp] theorem writeCrcData_crcRem (data : Data) : (writeCrcData data s).crcRem = s.crcRem := rfl
@[simp] theorem writeCrcData_result (data : Data) : (writeCrcData data s).result = s.result := rfl
@[simp] theorem writeCrcData_attempt (data : Data) : (writeCrcData data s).attempt = s.attempt := rfl
@[simp] theorem writeCrcData_delay (data : Data) : (writeCrcData data s).delay = s.delay := rfl
@[simp] theorem writeCrcData_seqRaw (data : Data) : (writeCrcData data s).seqRaw = s.seqRaw := rfl
@[simp] theorem writeCrcData_seqChk (data : Data) : (writeCrcData data s).seqChk = s.seqChk := rfl
@[simp] theorem writeCrcData_hostProgram (data : Data) : (writeCrcData data s).hostProgram = s.hostProgram := rfl
@[simp] theorem writeCrcData_hostPc (data : Data) : (writeCrcData data s).hostPc = s.hostPc := rfl
@[simp] theorem writeCrcData_hostLast (data : Data) : (writeCrcData data s).hostLast = s.hostLast := rfl
@[simp] theorem writeCrcData_schedule (data : Data) : (writeCrcData data s).schedule = s.schedule := rfl
@[simp] theorem writeCrcData_availAnswers (data : Data) : (writeCrcData data s).availAnswers = s.availAnswers := rfl
@[simp] theorem writeCrcData_byteAnswers (data : Data) : (writeCrcData data s).byteAnswers = s.byteAnswers := rfl
@[simp] theorem writeCrcData_busTrace (data : Data) : (writeCrcData data s).busTrace = s.busTrace := rfl
@[simp] theorem writeCrcData_boot (data : Data) : (writeCrcData data s).boot = s.boot := rfl
@[simp] theorem writeCrcData_freeIndex (data : Data) : (writeCrcData data s).freeIndex = s.freeIndex := rfl

/-! ### writeCrcChk -/

@[simp] theorem writeCrcChk_seqState (data : Data) : (writeCrcChk data s).seqState = s.seqState := rfl
@[simp] theorem writeCrcChk_kind (data : Data) : (writeCrcChk data s).kind = s.kind := rfl
@[simp] theorem writeCrcChk_resultCode (data : Data) : (writeCrcChk data s).resultCode = s.resultCode := rfl
@[simp] theorem writeCrcChk_crcPass (data : Data) : (writeCrcChk data s).crcPass = s.crcPass := rfl
@[simp] theorem writeCrcChk_cmdErr (data : Data) : (writeCrcChk data s).cmdErr = s.cmdErr := rfl
@[simp] theorem writeCrcChk_adapterErr (data : Data) : (writeCrcChk data s).adapterErr = s.adapterErr := rfl
@[simp] theorem writeCrcChk_crcValid (data : Data) : (writeCrcChk data s).crcValid = s.crcValid := rfl
@[simp] theorem writeCrcChk_crcData (data : Data) : (writeCrcChk data s).crcData = s.crcData := rfl
@[simp] theorem writeCrcChk_crcChk (data : Data) : (writeCrcChk data s).crcChk = data.setWidth 8 := rfl
@[simp] theorem writeCrcChk_crcRem (data : Data) : (writeCrcChk data s).crcRem = s.crcRem := rfl
@[simp] theorem writeCrcChk_result (data : Data) : (writeCrcChk data s).result = s.result := rfl
@[simp] theorem writeCrcChk_attempt (data : Data) : (writeCrcChk data s).attempt = s.attempt := rfl
@[simp] theorem writeCrcChk_delay (data : Data) : (writeCrcChk data s).delay = s.delay := rfl
@[simp] theorem writeCrcChk_seqRaw (data : Data) : (writeCrcChk data s).seqRaw = s.seqRaw := rfl
@[simp] theorem writeCrcChk_seqChk (data : Data) : (writeCrcChk data s).seqChk = s.seqChk := rfl
@[simp] theorem writeCrcChk_hostProgram (data : Data) : (writeCrcChk data s).hostProgram = s.hostProgram := rfl
@[simp] theorem writeCrcChk_hostPc (data : Data) : (writeCrcChk data s).hostPc = s.hostPc := rfl
@[simp] theorem writeCrcChk_hostLast (data : Data) : (writeCrcChk data s).hostLast = s.hostLast := rfl
@[simp] theorem writeCrcChk_schedule (data : Data) : (writeCrcChk data s).schedule = s.schedule := rfl
@[simp] theorem writeCrcChk_availAnswers (data : Data) : (writeCrcChk data s).availAnswers = s.availAnswers := rfl
@[simp] theorem writeCrcChk_byteAnswers (data : Data) : (writeCrcChk data s).byteAnswers = s.byteAnswers := rfl
@[simp] theorem writeCrcChk_busTrace (data : Data) : (writeCrcChk data s).busTrace = s.busTrace := rfl
@[simp] theorem writeCrcChk_boot (data : Data) : (writeCrcChk data s).boot = s.boot := rfl
@[simp] theorem writeCrcChk_freeIndex (data : Data) : (writeCrcChk data s).freeIndex = s.freeIndex := rfl

/-! ### writeVerifyResult -/

@[simp] theorem writeVerifyResult_seqState (rem : Byte) (pass : Bool) : (writeVerifyResult rem pass s).seqState = s.seqState := rfl
@[simp] theorem writeVerifyResult_kind (rem : Byte) (pass : Bool) : (writeVerifyResult rem pass s).kind = s.kind := rfl
@[simp] theorem writeVerifyResult_resultCode (rem : Byte) (pass : Bool) : (writeVerifyResult rem pass s).resultCode = s.resultCode := rfl
@[simp] theorem writeVerifyResult_crcPass (rem : Byte) (pass : Bool) : (writeVerifyResult rem pass s).crcPass = pass := rfl
@[simp] theorem writeVerifyResult_cmdErr (rem : Byte) (pass : Bool) : (writeVerifyResult rem pass s).cmdErr = s.cmdErr := rfl
@[simp] theorem writeVerifyResult_adapterErr (rem : Byte) (pass : Bool) : (writeVerifyResult rem pass s).adapterErr = s.adapterErr := rfl
@[simp] theorem writeVerifyResult_crcValid (rem : Byte) (pass : Bool) : (writeVerifyResult rem pass s).crcValid = true := rfl
@[simp] theorem writeVerifyResult_crcData (rem : Byte) (pass : Bool) : (writeVerifyResult rem pass s).crcData = s.crcData := rfl
@[simp] theorem writeVerifyResult_crcChk (rem : Byte) (pass : Bool) : (writeVerifyResult rem pass s).crcChk = s.crcChk := rfl
@[simp] theorem writeVerifyResult_crcRem (rem : Byte) (pass : Bool) : (writeVerifyResult rem pass s).crcRem = rem := rfl
@[simp] theorem writeVerifyResult_result (rem : Byte) (pass : Bool) : (writeVerifyResult rem pass s).result = s.result := rfl
@[simp] theorem writeVerifyResult_attempt (rem : Byte) (pass : Bool) : (writeVerifyResult rem pass s).attempt = s.attempt := rfl
@[simp] theorem writeVerifyResult_delay (rem : Byte) (pass : Bool) : (writeVerifyResult rem pass s).delay = s.delay := rfl
@[simp] theorem writeVerifyResult_seqRaw (rem : Byte) (pass : Bool) : (writeVerifyResult rem pass s).seqRaw = s.seqRaw := rfl
@[simp] theorem writeVerifyResult_seqChk (rem : Byte) (pass : Bool) : (writeVerifyResult rem pass s).seqChk = s.seqChk := rfl
@[simp] theorem writeVerifyResult_hostProgram (rem : Byte) (pass : Bool) : (writeVerifyResult rem pass s).hostProgram = s.hostProgram := rfl
@[simp] theorem writeVerifyResult_hostPc (rem : Byte) (pass : Bool) : (writeVerifyResult rem pass s).hostPc = s.hostPc := rfl
@[simp] theorem writeVerifyResult_hostLast (rem : Byte) (pass : Bool) : (writeVerifyResult rem pass s).hostLast = s.hostLast := rfl
@[simp] theorem writeVerifyResult_schedule (rem : Byte) (pass : Bool) : (writeVerifyResult rem pass s).schedule = s.schedule := rfl
@[simp] theorem writeVerifyResult_availAnswers (rem : Byte) (pass : Bool) : (writeVerifyResult rem pass s).availAnswers = s.availAnswers := rfl
@[simp] theorem writeVerifyResult_byteAnswers (rem : Byte) (pass : Bool) : (writeVerifyResult rem pass s).byteAnswers = s.byteAnswers := rfl
@[simp] theorem writeVerifyResult_busTrace (rem : Byte) (pass : Bool) : (writeVerifyResult rem pass s).busTrace = s.busTrace := rfl
@[simp] theorem writeVerifyResult_boot (rem : Byte) (pass : Bool) : (writeVerifyResult rem pass s).boot = s.boot := rfl
@[simp] theorem writeVerifyResult_freeIndex (rem : Byte) (pass : Bool) : (writeVerifyResult rem pass s).freeIndex = s.freeIndex := rfl

/-! ### deliverRead -/

@[simp] theorem deliverRead_seqState (value : Data) : (deliverRead value s).seqState = s.seqState := rfl
@[simp] theorem deliverRead_kind (value : Data) : (deliverRead value s).kind = s.kind := rfl
@[simp] theorem deliverRead_resultCode (value : Data) : (deliverRead value s).resultCode = s.resultCode := rfl
@[simp] theorem deliverRead_crcPass (value : Data) : (deliverRead value s).crcPass = s.crcPass := rfl
@[simp] theorem deliverRead_cmdErr (value : Data) : (deliverRead value s).cmdErr = s.cmdErr := rfl
@[simp] theorem deliverRead_adapterErr (value : Data) : (deliverRead value s).adapterErr = s.adapterErr := rfl
@[simp] theorem deliverRead_crcValid (value : Data) : (deliverRead value s).crcValid = s.crcValid := rfl
@[simp] theorem deliverRead_crcData (value : Data) : (deliverRead value s).crcData = s.crcData := rfl
@[simp] theorem deliverRead_crcChk (value : Data) : (deliverRead value s).crcChk = s.crcChk := rfl
@[simp] theorem deliverRead_crcRem (value : Data) : (deliverRead value s).crcRem = s.crcRem := rfl
@[simp] theorem deliverRead_result (value : Data) : (deliverRead value s).result = s.result := rfl
@[simp] theorem deliverRead_attempt (value : Data) : (deliverRead value s).attempt = s.attempt := rfl
@[simp] theorem deliverRead_delay (value : Data) : (deliverRead value s).delay = s.delay := rfl
@[simp] theorem deliverRead_seqRaw (value : Data) : (deliverRead value s).seqRaw = s.seqRaw := rfl
@[simp] theorem deliverRead_seqChk (value : Data) : (deliverRead value s).seqChk = s.seqChk := rfl
@[simp] theorem deliverRead_hostProgram (value : Data) : (deliverRead value s).hostProgram = s.hostProgram := rfl
@[simp] theorem deliverRead_hostPc (value : Data) : (deliverRead value s).hostPc = s.hostPc := rfl
@[simp] theorem deliverRead_hostLast (value : Data) : (deliverRead value s).hostLast = some value := rfl
@[simp] theorem deliverRead_schedule (value : Data) : (deliverRead value s).schedule = s.schedule := rfl
@[simp] theorem deliverRead_availAnswers (value : Data) : (deliverRead value s).availAnswers = s.availAnswers := rfl
@[simp] theorem deliverRead_byteAnswers (value : Data) : (deliverRead value s).byteAnswers = s.byteAnswers := rfl
@[simp] theorem deliverRead_busTrace (value : Data) : (deliverRead value s).busTrace = s.busTrace := rfl
@[simp] theorem deliverRead_boot (value : Data) : (deliverRead value s).boot = s.boot := rfl
@[simp] theorem deliverRead_freeIndex (value : Data) : (deliverRead value s).freeIndex = s.freeIndex := rfl

/-! ### setHostPc -/

@[simp] theorem setHostPc_seqState (pc : Nat) : (setHostPc pc s).seqState = s.seqState := rfl
@[simp] theorem setHostPc_kind (pc : Nat) : (setHostPc pc s).kind = s.kind := rfl
@[simp] theorem setHostPc_resultCode (pc : Nat) : (setHostPc pc s).resultCode = s.resultCode := rfl
@[simp] theorem setHostPc_crcPass (pc : Nat) : (setHostPc pc s).crcPass = s.crcPass := rfl
@[simp] theorem setHostPc_cmdErr (pc : Nat) : (setHostPc pc s).cmdErr = s.cmdErr := rfl
@[simp] theorem setHostPc_adapterErr (pc : Nat) : (setHostPc pc s).adapterErr = s.adapterErr := rfl
@[simp] theorem setHostPc_crcValid (pc : Nat) : (setHostPc pc s).crcValid = s.crcValid := rfl
@[simp] theorem setHostPc_crcData (pc : Nat) : (setHostPc pc s).crcData = s.crcData := rfl
@[simp] theorem setHostPc_crcChk (pc : Nat) : (setHostPc pc s).crcChk = s.crcChk := rfl
@[simp] theorem setHostPc_crcRem (pc : Nat) : (setHostPc pc s).crcRem = s.crcRem := rfl
@[simp] theorem setHostPc_result (pc : Nat) : (setHostPc pc s).result = s.result := rfl
@[simp] theorem setHostPc_attempt (pc : Nat) : (setHostPc pc s).attempt = s.attempt := rfl
@[simp] theorem setHostPc_delay (pc : Nat) : (setHostPc pc s).delay = s.delay := rfl
@[simp] theorem setHostPc_seqRaw (pc : Nat) : (setHostPc pc s).seqRaw = s.seqRaw := rfl
@[simp] theorem setHostPc_seqChk (pc : Nat) : (setHostPc pc s).seqChk = s.seqChk := rfl
@[simp] theorem setHostPc_hostProgram (pc : Nat) : (setHostPc pc s).hostProgram = s.hostProgram := rfl
@[simp] theorem setHostPc_hostPc (pc : Nat) : (setHostPc pc s).hostPc = pc := rfl
@[simp] theorem setHostPc_hostLast (pc : Nat) : (setHostPc pc s).hostLast = s.hostLast := rfl
@[simp] theorem setHostPc_schedule (pc : Nat) : (setHostPc pc s).schedule = s.schedule := rfl
@[simp] theorem setHostPc_availAnswers (pc : Nat) : (setHostPc pc s).availAnswers = s.availAnswers := rfl
@[simp] theorem setHostPc_byteAnswers (pc : Nat) : (setHostPc pc s).byteAnswers = s.byteAnswers := rfl
@[simp] theorem setHostPc_busTrace (pc : Nat) : (setHostPc pc s).busTrace = s.busTrace := rfl
@[simp] theorem setHostPc_boot (pc : Nat) : (setHostPc pc s).boot = s.boot := rfl
@[simp] theorem setHostPc_freeIndex (pc : Nat) : (setHostPc pc s).freeIndex = s.freeIndex := rfl

/-! ### meetRequirement -/

@[simp] theorem meetRequirement_seqState (r : BootRequirement) : (meetRequirement r s).seqState = s.seqState := rfl
@[simp] theorem meetRequirement_kind (r : BootRequirement) : (meetRequirement r s).kind = s.kind := rfl
@[simp] theorem meetRequirement_resultCode (r : BootRequirement) : (meetRequirement r s).resultCode = s.resultCode := rfl
@[simp] theorem meetRequirement_crcPass (r : BootRequirement) : (meetRequirement r s).crcPass = s.crcPass := rfl
@[simp] theorem meetRequirement_cmdErr (r : BootRequirement) : (meetRequirement r s).cmdErr = s.cmdErr := rfl
@[simp] theorem meetRequirement_adapterErr (r : BootRequirement) : (meetRequirement r s).adapterErr = s.adapterErr := rfl
@[simp] theorem meetRequirement_crcValid (r : BootRequirement) : (meetRequirement r s).crcValid = s.crcValid := rfl
@[simp] theorem meetRequirement_crcData (r : BootRequirement) : (meetRequirement r s).crcData = s.crcData := rfl
@[simp] theorem meetRequirement_crcChk (r : BootRequirement) : (meetRequirement r s).crcChk = s.crcChk := rfl
@[simp] theorem meetRequirement_crcRem (r : BootRequirement) : (meetRequirement r s).crcRem = s.crcRem := rfl
@[simp] theorem meetRequirement_result (r : BootRequirement) : (meetRequirement r s).result = s.result := rfl
@[simp] theorem meetRequirement_attempt (r : BootRequirement) : (meetRequirement r s).attempt = s.attempt := rfl
@[simp] theorem meetRequirement_delay (r : BootRequirement) : (meetRequirement r s).delay = s.delay := rfl
@[simp] theorem meetRequirement_seqRaw (r : BootRequirement) : (meetRequirement r s).seqRaw = s.seqRaw := rfl
@[simp] theorem meetRequirement_seqChk (r : BootRequirement) : (meetRequirement r s).seqChk = s.seqChk := rfl
@[simp] theorem meetRequirement_hostProgram (r : BootRequirement) : (meetRequirement r s).hostProgram = s.hostProgram := rfl
@[simp] theorem meetRequirement_hostPc (r : BootRequirement) : (meetRequirement r s).hostPc = s.hostPc := rfl
@[simp] theorem meetRequirement_hostLast (r : BootRequirement) : (meetRequirement r s).hostLast = s.hostLast := rfl
@[simp] theorem meetRequirement_schedule (r : BootRequirement) : (meetRequirement r s).schedule = s.schedule := rfl
@[simp] theorem meetRequirement_availAnswers (r : BootRequirement) : (meetRequirement r s).availAnswers = s.availAnswers := rfl
@[simp] theorem meetRequirement_byteAnswers (r : BootRequirement) : (meetRequirement r s).byteAnswers = s.byteAnswers := rfl
@[simp] theorem meetRequirement_busTrace (r : BootRequirement) : (meetRequirement r s).busTrace = s.busTrace := rfl
@[simp] theorem meetRequirement_boot (r : BootRequirement) : (meetRequirement r s).boot = s.boot.meet r := rfl
@[simp] theorem meetRequirement_freeIndex (r : BootRequirement) : (meetRequirement r s).freeIndex = s.freeIndex := rfl

/-! ### useFree -/

@[simp] theorem useFree_seqState : (useFree s).seqState = s.seqState := rfl
@[simp] theorem useFree_kind : (useFree s).kind = s.kind := rfl
@[simp] theorem useFree_resultCode : (useFree s).resultCode = s.resultCode := rfl
@[simp] theorem useFree_crcPass : (useFree s).crcPass = s.crcPass := rfl
@[simp] theorem useFree_cmdErr : (useFree s).cmdErr = s.cmdErr := rfl
@[simp] theorem useFree_adapterErr : (useFree s).adapterErr = s.adapterErr := rfl
@[simp] theorem useFree_crcValid : (useFree s).crcValid = s.crcValid := rfl
@[simp] theorem useFree_crcData : (useFree s).crcData = s.crcData := rfl
@[simp] theorem useFree_crcChk : (useFree s).crcChk = s.crcChk := rfl
@[simp] theorem useFree_crcRem : (useFree s).crcRem = s.crcRem := rfl
@[simp] theorem useFree_result : (useFree s).result = s.result := rfl
@[simp] theorem useFree_attempt : (useFree s).attempt = s.attempt := rfl
@[simp] theorem useFree_delay : (useFree s).delay = s.delay := rfl
@[simp] theorem useFree_seqRaw : (useFree s).seqRaw = s.seqRaw := rfl
@[simp] theorem useFree_seqChk : (useFree s).seqChk = s.seqChk := rfl
@[simp] theorem useFree_hostProgram : (useFree s).hostProgram = s.hostProgram := rfl
@[simp] theorem useFree_hostPc : (useFree s).hostPc = s.hostPc := rfl
@[simp] theorem useFree_hostLast : (useFree s).hostLast = s.hostLast := rfl
@[simp] theorem useFree_schedule : (useFree s).schedule = s.schedule := rfl
@[simp] theorem useFree_availAnswers : (useFree s).availAnswers = s.availAnswers := rfl
@[simp] theorem useFree_byteAnswers : (useFree s).byteAnswers = s.byteAnswers := rfl
@[simp] theorem useFree_busTrace : (useFree s).busTrace = s.busTrace := rfl
@[simp] theorem useFree_boot : (useFree s).boot = s.boot := rfl
@[simp] theorem useFree_freeIndex : (useFree s).freeIndex = s.freeIndex + 1 := rfl

/-! ### emit -/

@[simp] theorem emit_seqState (e : BusEvent) : (emit e s).seqState = s.seqState := rfl
@[simp] theorem emit_kind (e : BusEvent) : (emit e s).kind = s.kind := rfl
@[simp] theorem emit_resultCode (e : BusEvent) : (emit e s).resultCode = s.resultCode := rfl
@[simp] theorem emit_crcPass (e : BusEvent) : (emit e s).crcPass = s.crcPass := rfl
@[simp] theorem emit_cmdErr (e : BusEvent) : (emit e s).cmdErr = s.cmdErr := rfl
@[simp] theorem emit_adapterErr (e : BusEvent) : (emit e s).adapterErr = s.adapterErr := rfl
@[simp] theorem emit_crcValid (e : BusEvent) : (emit e s).crcValid = s.crcValid := rfl
@[simp] theorem emit_crcData (e : BusEvent) : (emit e s).crcData = s.crcData := rfl
@[simp] theorem emit_crcChk (e : BusEvent) : (emit e s).crcChk = s.crcChk := rfl
@[simp] theorem emit_crcRem (e : BusEvent) : (emit e s).crcRem = s.crcRem := rfl
@[simp] theorem emit_result (e : BusEvent) : (emit e s).result = s.result := rfl
@[simp] theorem emit_attempt (e : BusEvent) : (emit e s).attempt = s.attempt := rfl
@[simp] theorem emit_delay (e : BusEvent) : (emit e s).delay = s.delay := rfl
@[simp] theorem emit_seqRaw (e : BusEvent) : (emit e s).seqRaw = s.seqRaw := rfl
@[simp] theorem emit_seqChk (e : BusEvent) : (emit e s).seqChk = s.seqChk := rfl
@[simp] theorem emit_hostProgram (e : BusEvent) : (emit e s).hostProgram = s.hostProgram := rfl
@[simp] theorem emit_hostPc (e : BusEvent) : (emit e s).hostPc = s.hostPc := rfl
@[simp] theorem emit_hostLast (e : BusEvent) : (emit e s).hostLast = s.hostLast := rfl
@[simp] theorem emit_schedule (e : BusEvent) : (emit e s).schedule = s.schedule := rfl
@[simp] theorem emit_availAnswers (e : BusEvent) : (emit e s).availAnswers = s.availAnswers := rfl
@[simp] theorem emit_byteAnswers (e : BusEvent) : (emit e s).byteAnswers = s.byteAnswers := rfl
@[simp] theorem emit_busTrace (e : BusEvent) : (emit e s).busTrace = s.busTrace ++ [e] := rfl
@[simp] theorem emit_boot (e : BusEvent) : (emit e s).boot = s.boot := rfl
@[simp] theorem emit_freeIndex (e : BusEvent) : (emit e s).freeIndex = s.freeIndex := rfl

/-! ### setAvailAnswers -/

@[simp] theorem setAvailAnswers_seqState (answers : List Byte) : (setAvailAnswers answers s).seqState = s.seqState := rfl
@[simp] theorem setAvailAnswers_kind (answers : List Byte) : (setAvailAnswers answers s).kind = s.kind := rfl
@[simp] theorem setAvailAnswers_resultCode (answers : List Byte) : (setAvailAnswers answers s).resultCode = s.resultCode := rfl
@[simp] theorem setAvailAnswers_crcPass (answers : List Byte) : (setAvailAnswers answers s).crcPass = s.crcPass := rfl
@[simp] theorem setAvailAnswers_cmdErr (answers : List Byte) : (setAvailAnswers answers s).cmdErr = s.cmdErr := rfl
@[simp] theorem setAvailAnswers_adapterErr (answers : List Byte) : (setAvailAnswers answers s).adapterErr = s.adapterErr := rfl
@[simp] theorem setAvailAnswers_crcValid (answers : List Byte) : (setAvailAnswers answers s).crcValid = s.crcValid := rfl
@[simp] theorem setAvailAnswers_crcData (answers : List Byte) : (setAvailAnswers answers s).crcData = s.crcData := rfl
@[simp] theorem setAvailAnswers_crcChk (answers : List Byte) : (setAvailAnswers answers s).crcChk = s.crcChk := rfl
@[simp] theorem setAvailAnswers_crcRem (answers : List Byte) : (setAvailAnswers answers s).crcRem = s.crcRem := rfl
@[simp] theorem setAvailAnswers_result (answers : List Byte) : (setAvailAnswers answers s).result = s.result := rfl
@[simp] theorem setAvailAnswers_attempt (answers : List Byte) : (setAvailAnswers answers s).attempt = s.attempt := rfl
@[simp] theorem setAvailAnswers_delay (answers : List Byte) : (setAvailAnswers answers s).delay = s.delay := rfl
@[simp] theorem setAvailAnswers_seqRaw (answers : List Byte) : (setAvailAnswers answers s).seqRaw = s.seqRaw := rfl
@[simp] theorem setAvailAnswers_seqChk (answers : List Byte) : (setAvailAnswers answers s).seqChk = s.seqChk := rfl
@[simp] theorem setAvailAnswers_hostProgram (answers : List Byte) : (setAvailAnswers answers s).hostProgram = s.hostProgram := rfl
@[simp] theorem setAvailAnswers_hostPc (answers : List Byte) : (setAvailAnswers answers s).hostPc = s.hostPc := rfl
@[simp] theorem setAvailAnswers_hostLast (answers : List Byte) : (setAvailAnswers answers s).hostLast = s.hostLast := rfl
@[simp] theorem setAvailAnswers_schedule (answers : List Byte) : (setAvailAnswers answers s).schedule = s.schedule := rfl
@[simp] theorem setAvailAnswers_availAnswers (answers : List Byte) : (setAvailAnswers answers s).availAnswers = answers := rfl
@[simp] theorem setAvailAnswers_byteAnswers (answers : List Byte) : (setAvailAnswers answers s).byteAnswers = s.byteAnswers := rfl
@[simp] theorem setAvailAnswers_busTrace (answers : List Byte) : (setAvailAnswers answers s).busTrace = s.busTrace := rfl
@[simp] theorem setAvailAnswers_boot (answers : List Byte) : (setAvailAnswers answers s).boot = s.boot := rfl
@[simp] theorem setAvailAnswers_freeIndex (answers : List Byte) : (setAvailAnswers answers s).freeIndex = s.freeIndex := rfl

/-! ### setByteAnswers -/

@[simp] theorem setByteAnswers_seqState (answers : List Byte) : (setByteAnswers answers s).seqState = s.seqState := rfl
@[simp] theorem setByteAnswers_kind (answers : List Byte) : (setByteAnswers answers s).kind = s.kind := rfl
@[simp] theorem setByteAnswers_resultCode (answers : List Byte) : (setByteAnswers answers s).resultCode = s.resultCode := rfl
@[simp] theorem setByteAnswers_crcPass (answers : List Byte) : (setByteAnswers answers s).crcPass = s.crcPass := rfl
@[simp] theorem setByteAnswers_cmdErr (answers : List Byte) : (setByteAnswers answers s).cmdErr = s.cmdErr := rfl
@[simp] theorem setByteAnswers_adapterErr (answers : List Byte) : (setByteAnswers answers s).adapterErr = s.adapterErr := rfl
@[simp] theorem setByteAnswers_crcValid (answers : List Byte) : (setByteAnswers answers s).crcValid = s.crcValid := rfl
@[simp] theorem setByteAnswers_crcData (answers : List Byte) : (setByteAnswers answers s).crcData = s.crcData := rfl
@[simp] theorem setByteAnswers_crcChk (answers : List Byte) : (setByteAnswers answers s).crcChk = s.crcChk := rfl
@[simp] theorem setByteAnswers_crcRem (answers : List Byte) : (setByteAnswers answers s).crcRem = s.crcRem := rfl
@[simp] theorem setByteAnswers_result (answers : List Byte) : (setByteAnswers answers s).result = s.result := rfl
@[simp] theorem setByteAnswers_attempt (answers : List Byte) : (setByteAnswers answers s).attempt = s.attempt := rfl
@[simp] theorem setByteAnswers_delay (answers : List Byte) : (setByteAnswers answers s).delay = s.delay := rfl
@[simp] theorem setByteAnswers_seqRaw (answers : List Byte) : (setByteAnswers answers s).seqRaw = s.seqRaw := rfl
@[simp] theorem setByteAnswers_seqChk (answers : List Byte) : (setByteAnswers answers s).seqChk = s.seqChk := rfl
@[simp] theorem setByteAnswers_hostProgram (answers : List Byte) : (setByteAnswers answers s).hostProgram = s.hostProgram := rfl
@[simp] theorem setByteAnswers_hostPc (answers : List Byte) : (setByteAnswers answers s).hostPc = s.hostPc := rfl
@[simp] theorem setByteAnswers_hostLast (answers : List Byte) : (setByteAnswers answers s).hostLast = s.hostLast := rfl
@[simp] theorem setByteAnswers_schedule (answers : List Byte) : (setByteAnswers answers s).schedule = s.schedule := rfl
@[simp] theorem setByteAnswers_availAnswers (answers : List Byte) : (setByteAnswers answers s).availAnswers = s.availAnswers := rfl
@[simp] theorem setByteAnswers_byteAnswers (answers : List Byte) : (setByteAnswers answers s).byteAnswers = answers := rfl
@[simp] theorem setByteAnswers_busTrace (answers : List Byte) : (setByteAnswers answers s).busTrace = s.busTrace := rfl
@[simp] theorem setByteAnswers_boot (answers : List Byte) : (setByteAnswers answers s).boot = s.boot := rfl
@[simp] theorem setByteAnswers_freeIndex (answers : List Byte) : (setByteAnswers answers s).freeIndex = s.freeIndex := rfl

/-! ### setSchedule -/

@[simp] theorem setSchedule_seqState (events : List Event) : (setSchedule events s).seqState = s.seqState := rfl
@[simp] theorem setSchedule_kind (events : List Event) : (setSchedule events s).kind = s.kind := rfl
@[simp] theorem setSchedule_resultCode (events : List Event) : (setSchedule events s).resultCode = s.resultCode := rfl
@[simp] theorem setSchedule_crcPass (events : List Event) : (setSchedule events s).crcPass = s.crcPass := rfl
@[simp] theorem setSchedule_cmdErr (events : List Event) : (setSchedule events s).cmdErr = s.cmdErr := rfl
@[simp] theorem setSchedule_adapterErr (events : List Event) : (setSchedule events s).adapterErr = s.adapterErr := rfl
@[simp] theorem setSchedule_crcValid (events : List Event) : (setSchedule events s).crcValid = s.crcValid := rfl
@[simp] theorem setSchedule_crcData (events : List Event) : (setSchedule events s).crcData = s.crcData := rfl
@[simp] theorem setSchedule_crcChk (events : List Event) : (setSchedule events s).crcChk = s.crcChk := rfl
@[simp] theorem setSchedule_crcRem (events : List Event) : (setSchedule events s).crcRem = s.crcRem := rfl
@[simp] theorem setSchedule_result (events : List Event) : (setSchedule events s).result = s.result := rfl
@[simp] theorem setSchedule_attempt (events : List Event) : (setSchedule events s).attempt = s.attempt := rfl
@[simp] theorem setSchedule_delay (events : List Event) : (setSchedule events s).delay = s.delay := rfl
@[simp] theorem setSchedule_seqRaw (events : List Event) : (setSchedule events s).seqRaw = s.seqRaw := rfl
@[simp] theorem setSchedule_seqChk (events : List Event) : (setSchedule events s).seqChk = s.seqChk := rfl
@[simp] theorem setSchedule_hostProgram (events : List Event) : (setSchedule events s).hostProgram = s.hostProgram := rfl
@[simp] theorem setSchedule_hostPc (events : List Event) : (setSchedule events s).hostPc = s.hostPc := rfl
@[simp] theorem setSchedule_hostLast (events : List Event) : (setSchedule events s).hostLast = s.hostLast := rfl
@[simp] theorem setSchedule_schedule (events : List Event) : (setSchedule events s).schedule = events := rfl
@[simp] theorem setSchedule_availAnswers (events : List Event) : (setSchedule events s).availAnswers = s.availAnswers := rfl
@[simp] theorem setSchedule_byteAnswers (events : List Event) : (setSchedule events s).byteAnswers = s.byteAnswers := rfl
@[simp] theorem setSchedule_busTrace (events : List Event) : (setSchedule events s).busTrace = s.busTrace := rfl
@[simp] theorem setSchedule_boot (events : List Event) : (setSchedule events s).boot = s.boot := rfl
@[simp] theorem setSchedule_freeIndex (events : List Event) : (setSchedule events s).freeIndex = s.freeIndex := rfl

/-! ### startMeasurement -/

@[simp] theorem startMeasurement_seqState (k : Kind) : (startMeasurement k s).seqState = seqTrigger := rfl
@[simp] theorem startMeasurement_kind (k : Kind) : (startMeasurement k s).kind = k := rfl
@[simp] theorem startMeasurement_resultCode (k : Kind) : (startMeasurement k s).resultCode = .none := rfl
@[simp] theorem startMeasurement_crcPass (k : Kind) : (startMeasurement k s).crcPass = s.crcPass := rfl
@[simp] theorem startMeasurement_cmdErr (k : Kind) : (startMeasurement k s).cmdErr = s.cmdErr := rfl
@[simp] theorem startMeasurement_adapterErr (k : Kind) : (startMeasurement k s).adapterErr = s.adapterErr := rfl
@[simp] theorem startMeasurement_crcValid (k : Kind) : (startMeasurement k s).crcValid = s.crcValid := rfl
@[simp] theorem startMeasurement_crcData (k : Kind) : (startMeasurement k s).crcData = s.crcData := rfl
@[simp] theorem startMeasurement_crcChk (k : Kind) : (startMeasurement k s).crcChk = s.crcChk := rfl
@[simp] theorem startMeasurement_crcRem (k : Kind) : (startMeasurement k s).crcRem = s.crcRem := rfl
@[simp] theorem startMeasurement_result (k : Kind) : (startMeasurement k s).result = 0x0000 := rfl
@[simp] theorem startMeasurement_attempt (k : Kind) : (startMeasurement k s).attempt = 0 := rfl
@[simp] theorem startMeasurement_delay (k : Kind) : (startMeasurement k s).delay = s.delay := rfl
@[simp] theorem startMeasurement_seqRaw (k : Kind) : (startMeasurement k s).seqRaw = s.seqRaw := rfl
@[simp] theorem startMeasurement_seqChk (k : Kind) : (startMeasurement k s).seqChk = s.seqChk := rfl
@[simp] theorem startMeasurement_hostProgram (k : Kind) : (startMeasurement k s).hostProgram = s.hostProgram := rfl
@[simp] theorem startMeasurement_hostPc (k : Kind) : (startMeasurement k s).hostPc = s.hostPc := rfl
@[simp] theorem startMeasurement_hostLast (k : Kind) : (startMeasurement k s).hostLast = s.hostLast := rfl
@[simp] theorem startMeasurement_schedule (k : Kind) : (startMeasurement k s).schedule = s.schedule := rfl
@[simp] theorem startMeasurement_availAnswers (k : Kind) : (startMeasurement k s).availAnswers = s.availAnswers := rfl
@[simp] theorem startMeasurement_byteAnswers (k : Kind) : (startMeasurement k s).byteAnswers = s.byteAnswers := rfl
@[simp] theorem startMeasurement_busTrace (k : Kind) : (startMeasurement k s).busTrace = s.busTrace := rfl
@[simp] theorem startMeasurement_boot (k : Kind) : (startMeasurement k s).boot = s.boot := rfl
@[simp] theorem startMeasurement_freeIndex (k : Kind) : (startMeasurement k s).freeIndex = s.freeIndex := rfl

/-! ### resetRegisters -/

@[simp] theorem resetRegisters_seqState : (resetRegisters s).seqState = seqIdle := rfl
@[simp] theorem resetRegisters_kind : (resetRegisters s).kind = .humidity := rfl
@[simp] theorem resetRegisters_resultCode : (resetRegisters s).resultCode = .none := rfl
@[simp] theorem resetRegisters_crcPass : (resetRegisters s).crcPass = false := rfl
@[simp] theorem resetRegisters_cmdErr : (resetRegisters s).cmdErr = false := rfl
@[simp] theorem resetRegisters_adapterErr : (resetRegisters s).adapterErr = false := rfl
@[simp] theorem resetRegisters_crcValid : (resetRegisters s).crcValid = false := rfl
@[simp] theorem resetRegisters_crcData : (resetRegisters s).crcData = 0x0000 := rfl
@[simp] theorem resetRegisters_crcChk : (resetRegisters s).crcChk = 0x00 := rfl
@[simp] theorem resetRegisters_crcRem : (resetRegisters s).crcRem = 0x00 := rfl
@[simp] theorem resetRegisters_result : (resetRegisters s).result = 0x0000 := rfl
@[simp] theorem resetRegisters_attempt : (resetRegisters s).attempt = 0 := rfl
@[simp] theorem resetRegisters_delay : (resetRegisters s).delay = 0 := rfl
@[simp] theorem resetRegisters_seqRaw : (resetRegisters s).seqRaw = Config.seqRawAfterReset s.freeIndex := rfl
@[simp] theorem resetRegisters_seqChk : (resetRegisters s).seqChk = Config.seqChkAfterReset s.freeIndex := rfl
@[simp] theorem resetRegisters_hostProgram : (resetRegisters s).hostProgram = s.hostProgram := rfl
@[simp] theorem resetRegisters_hostPc : (resetRegisters s).hostPc = s.hostPc := rfl
@[simp] theorem resetRegisters_hostLast : (resetRegisters s).hostLast = s.hostLast := rfl
@[simp] theorem resetRegisters_schedule : (resetRegisters s).schedule = s.schedule := rfl
@[simp] theorem resetRegisters_availAnswers : (resetRegisters s).availAnswers = s.availAnswers := rfl
@[simp] theorem resetRegisters_byteAnswers : (resetRegisters s).byteAnswers = s.byteAnswers := rfl
@[simp] theorem resetRegisters_busTrace : (resetRegisters s).busTrace = s.busTrace := rfl
@[simp] theorem resetRegisters_boot : (resetRegisters s).boot = s.boot := rfl
@[simp] theorem resetRegisters_freeIndex : (resetRegisters s).freeIndex = s.freeIndex := rfl

end Sys2Proof.Machine
end

