-- ==== Sys2Proof/Laws/Inputs.lean ====
section
/-! SUPPORT. What taking an input leaves unchanged, field by field, and what each takes. -/

namespace Sys2Proof.Machine

variable (s : State)

/-! ### takeEvent -/

@[simp] theorem State.takeEvent_seqState : s.takeEvent.seqState = s.seqState := by unfold State.takeEvent; split <;> rfl
@[simp] theorem State.takeEvent_kind : s.takeEvent.kind = s.kind := by unfold State.takeEvent; split <;> rfl
@[simp] theorem State.takeEvent_resultCode : s.takeEvent.resultCode = s.resultCode := by unfold State.takeEvent; split <;> rfl
@[simp] theorem State.takeEvent_crcPass : s.takeEvent.crcPass = s.crcPass := by unfold State.takeEvent; split <;> rfl
@[simp] theorem State.takeEvent_cmdErr : s.takeEvent.cmdErr = s.cmdErr := by unfold State.takeEvent; split <;> rfl
@[simp] theorem State.takeEvent_adapterErr : s.takeEvent.adapterErr = s.adapterErr := by unfold State.takeEvent; split <;> rfl
@[simp] theorem State.takeEvent_crcValid : s.takeEvent.crcValid = s.crcValid := by unfold State.takeEvent; split <;> rfl
@[simp] theorem State.takeEvent_crcData : s.takeEvent.crcData = s.crcData := by unfold State.takeEvent; split <;> rfl
@[simp] theorem State.takeEvent_crcChk : s.takeEvent.crcChk = s.crcChk := by unfold State.takeEvent; split <;> rfl
@[simp] theorem State.takeEvent_crcRem : s.takeEvent.crcRem = s.crcRem := by unfold State.takeEvent; split <;> rfl
@[simp] theorem State.takeEvent_result : s.takeEvent.result = s.result := by unfold State.takeEvent; split <;> rfl
@[simp] theorem State.takeEvent_attempt : s.takeEvent.attempt = s.attempt := by unfold State.takeEvent; split <;> rfl
@[simp] theorem State.takeEvent_delay : s.takeEvent.delay = s.delay := by unfold State.takeEvent; split <;> rfl
@[simp] theorem State.takeEvent_seqRaw : s.takeEvent.seqRaw = s.seqRaw := by unfold State.takeEvent; split <;> rfl
@[simp] theorem State.takeEvent_seqChk : s.takeEvent.seqChk = s.seqChk := by unfold State.takeEvent; split <;> rfl
@[simp] theorem State.takeEvent_boot : s.takeEvent.boot = s.boot := by unfold State.takeEvent; split <;> rfl
@[simp] theorem State.takeEvent_hostProgram : s.takeEvent.hostProgram = s.hostProgram := by unfold State.takeEvent; split <;> rfl
@[simp] theorem State.takeEvent_hostPc : s.takeEvent.hostPc = s.hostPc := by unfold State.takeEvent; split <;> rfl
@[simp] theorem State.takeEvent_hostLast : s.takeEvent.hostLast = s.hostLast := by unfold State.takeEvent; split <;> rfl
@[simp] theorem State.takeEvent_availAnswers : s.takeEvent.availAnswers = s.availAnswers := by unfold State.takeEvent; split <;> rfl
@[simp] theorem State.takeEvent_byteAnswers : s.takeEvent.byteAnswers = s.byteAnswers := by unfold State.takeEvent; split <;> rfl
@[simp] theorem State.takeEvent_busTrace : s.takeEvent.busTrace = s.busTrace := by unfold State.takeEvent; split <;> rfl

/-! ### takeAvailable -/

@[simp] theorem State.takeAvailable_seqState : s.takeAvailable.seqState = s.seqState := by unfold State.takeAvailable; split <;> rfl
@[simp] theorem State.takeAvailable_kind : s.takeAvailable.kind = s.kind := by unfold State.takeAvailable; split <;> rfl
@[simp] theorem State.takeAvailable_resultCode : s.takeAvailable.resultCode = s.resultCode := by unfold State.takeAvailable; split <;> rfl
@[simp] theorem State.takeAvailable_crcPass : s.takeAvailable.crcPass = s.crcPass := by unfold State.takeAvailable; split <;> rfl
@[simp] theorem State.takeAvailable_cmdErr : s.takeAvailable.cmdErr = s.cmdErr := by unfold State.takeAvailable; split <;> rfl
@[simp] theorem State.takeAvailable_adapterErr : s.takeAvailable.adapterErr = s.adapterErr := by unfold State.takeAvailable; split <;> rfl
@[simp] theorem State.takeAvailable_crcValid : s.takeAvailable.crcValid = s.crcValid := by unfold State.takeAvailable; split <;> rfl
@[simp] theorem State.takeAvailable_crcData : s.takeAvailable.crcData = s.crcData := by unfold State.takeAvailable; split <;> rfl
@[simp] theorem State.takeAvailable_crcChk : s.takeAvailable.crcChk = s.crcChk := by unfold State.takeAvailable; split <;> rfl
@[simp] theorem State.takeAvailable_crcRem : s.takeAvailable.crcRem = s.crcRem := by unfold State.takeAvailable; split <;> rfl
@[simp] theorem State.takeAvailable_result : s.takeAvailable.result = s.result := by unfold State.takeAvailable; split <;> rfl
@[simp] theorem State.takeAvailable_attempt : s.takeAvailable.attempt = s.attempt := by unfold State.takeAvailable; split <;> rfl
@[simp] theorem State.takeAvailable_delay : s.takeAvailable.delay = s.delay := by unfold State.takeAvailable; split <;> rfl
@[simp] theorem State.takeAvailable_seqRaw : s.takeAvailable.seqRaw = s.seqRaw := by unfold State.takeAvailable; split <;> rfl
@[simp] theorem State.takeAvailable_seqChk : s.takeAvailable.seqChk = s.seqChk := by unfold State.takeAvailable; split <;> rfl
@[simp] theorem State.takeAvailable_boot : s.takeAvailable.boot = s.boot := by unfold State.takeAvailable; split <;> rfl
@[simp] theorem State.takeAvailable_hostProgram : s.takeAvailable.hostProgram = s.hostProgram := by unfold State.takeAvailable; split <;> rfl
@[simp] theorem State.takeAvailable_hostPc : s.takeAvailable.hostPc = s.hostPc := by unfold State.takeAvailable; split <;> rfl
@[simp] theorem State.takeAvailable_hostLast : s.takeAvailable.hostLast = s.hostLast := by unfold State.takeAvailable; split <;> rfl
@[simp] theorem State.takeAvailable_schedule : s.takeAvailable.schedule = s.schedule := by unfold State.takeAvailable; split <;> rfl
@[simp] theorem State.takeAvailable_byteAnswers : s.takeAvailable.byteAnswers = s.byteAnswers := by unfold State.takeAvailable; split <;> rfl
@[simp] theorem State.takeAvailable_busTrace : s.takeAvailable.busTrace = s.busTrace := by unfold State.takeAvailable; split <;> rfl

/-! ### takeByte -/

@[simp] theorem State.takeByte_seqState : s.takeByte.seqState = s.seqState := by unfold State.takeByte; split <;> rfl
@[simp] theorem State.takeByte_kind : s.takeByte.kind = s.kind := by unfold State.takeByte; split <;> rfl
@[simp] theorem State.takeByte_resultCode : s.takeByte.resultCode = s.resultCode := by unfold State.takeByte; split <;> rfl
@[simp] theorem State.takeByte_crcPass : s.takeByte.crcPass = s.crcPass := by unfold State.takeByte; split <;> rfl
@[simp] theorem State.takeByte_cmdErr : s.takeByte.cmdErr = s.cmdErr := by unfold State.takeByte; split <;> rfl
@[simp] theorem State.takeByte_adapterErr : s.takeByte.adapterErr = s.adapterErr := by unfold State.takeByte; split <;> rfl
@[simp] theorem State.takeByte_crcValid : s.takeByte.crcValid = s.crcValid := by unfold State.takeByte; split <;> rfl
@[simp] theorem State.takeByte_crcData : s.takeByte.crcData = s.crcData := by unfold State.takeByte; split <;> rfl
@[simp] theorem State.takeByte_crcChk : s.takeByte.crcChk = s.crcChk := by unfold State.takeByte; split <;> rfl
@[simp] theorem State.takeByte_crcRem : s.takeByte.crcRem = s.crcRem := by unfold State.takeByte; split <;> rfl
@[simp] theorem State.takeByte_result : s.takeByte.result = s.result := by unfold State.takeByte; split <;> rfl
@[simp] theorem State.takeByte_attempt : s.takeByte.attempt = s.attempt := by unfold State.takeByte; split <;> rfl
@[simp] theorem State.takeByte_delay : s.takeByte.delay = s.delay := by unfold State.takeByte; split <;> rfl
@[simp] theorem State.takeByte_seqRaw : s.takeByte.seqRaw = s.seqRaw := by unfold State.takeByte; split <;> rfl
@[simp] theorem State.takeByte_seqChk : s.takeByte.seqChk = s.seqChk := by unfold State.takeByte; split <;> rfl
@[simp] theorem State.takeByte_boot : s.takeByte.boot = s.boot := by unfold State.takeByte; split <;> rfl
@[simp] theorem State.takeByte_hostProgram : s.takeByte.hostProgram = s.hostProgram := by unfold State.takeByte; split <;> rfl
@[simp] theorem State.takeByte_hostPc : s.takeByte.hostPc = s.hostPc := by unfold State.takeByte; split <;> rfl
@[simp] theorem State.takeByte_hostLast : s.takeByte.hostLast = s.hostLast := by unfold State.takeByte; split <;> rfl
@[simp] theorem State.takeByte_schedule : s.takeByte.schedule = s.schedule := by unfold State.takeByte; split <;> rfl
@[simp] theorem State.takeByte_availAnswers : s.takeByte.availAnswers = s.availAnswers := by unfold State.takeByte; split <;> rfl
@[simp] theorem State.takeByte_busTrace : s.takeByte.busTrace = s.busTrace := by unfold State.takeByte; split <;> rfl

/-! ### takeBranchValue -/

@[simp] theorem State.takeBranchValue_seqState : s.takeBranchValue.seqState = s.seqState := by unfold State.takeBranchValue; split <;> rfl
@[simp] theorem State.takeBranchValue_kind : s.takeBranchValue.kind = s.kind := by unfold State.takeBranchValue; split <;> rfl
@[simp] theorem State.takeBranchValue_resultCode : s.takeBranchValue.resultCode = s.resultCode := by unfold State.takeBranchValue; split <;> rfl
@[simp] theorem State.takeBranchValue_crcPass : s.takeBranchValue.crcPass = s.crcPass := by unfold State.takeBranchValue; split <;> rfl
@[simp] theorem State.takeBranchValue_cmdErr : s.takeBranchValue.cmdErr = s.cmdErr := by unfold State.takeBranchValue; split <;> rfl
@[simp] theorem State.takeBranchValue_adapterErr : s.takeBranchValue.adapterErr = s.adapterErr := by unfold State.takeBranchValue; split <;> rfl
@[simp] theorem State.takeBranchValue_crcValid : s.takeBranchValue.crcValid = s.crcValid := by unfold State.takeBranchValue; split <;> rfl
@[simp] theorem State.takeBranchValue_crcData : s.takeBranchValue.crcData = s.crcData := by unfold State.takeBranchValue; split <;> rfl
@[simp] theorem State.takeBranchValue_crcChk : s.takeBranchValue.crcChk = s.crcChk := by unfold State.takeBranchValue; split <;> rfl
@[simp] theorem State.takeBranchValue_crcRem : s.takeBranchValue.crcRem = s.crcRem := by unfold State.takeBranchValue; split <;> rfl
@[simp] theorem State.takeBranchValue_result : s.takeBranchValue.result = s.result := by unfold State.takeBranchValue; split <;> rfl
@[simp] theorem State.takeBranchValue_attempt : s.takeBranchValue.attempt = s.attempt := by unfold State.takeBranchValue; split <;> rfl
@[simp] theorem State.takeBranchValue_delay : s.takeBranchValue.delay = s.delay := by unfold State.takeBranchValue; split <;> rfl
@[simp] theorem State.takeBranchValue_seqRaw : s.takeBranchValue.seqRaw = s.seqRaw := by unfold State.takeBranchValue; split <;> rfl
@[simp] theorem State.takeBranchValue_seqChk : s.takeBranchValue.seqChk = s.seqChk := by unfold State.takeBranchValue; split <;> rfl
@[simp] theorem State.takeBranchValue_boot : s.takeBranchValue.boot = s.boot := by unfold State.takeBranchValue; split <;> rfl
@[simp] theorem State.takeBranchValue_hostProgram : s.takeBranchValue.hostProgram = s.hostProgram := by unfold State.takeBranchValue; split <;> rfl
@[simp] theorem State.takeBranchValue_hostPc : s.takeBranchValue.hostPc = s.hostPc := by unfold State.takeBranchValue; split <;> rfl
@[simp] theorem State.takeBranchValue_hostLast : s.takeBranchValue.hostLast = s.hostLast := by unfold State.takeBranchValue; split <;> rfl
@[simp] theorem State.takeBranchValue_schedule : s.takeBranchValue.schedule = s.schedule := by unfold State.takeBranchValue; split <;> rfl
@[simp] theorem State.takeBranchValue_availAnswers : s.takeBranchValue.availAnswers = s.availAnswers := by unfold State.takeBranchValue; split <;> rfl
@[simp] theorem State.takeBranchValue_byteAnswers : s.takeBranchValue.byteAnswers = s.byteAnswers := by unfold State.takeBranchValue; split <;> rfl
@[simp] theorem State.takeBranchValue_busTrace : s.takeBranchValue.busTrace = s.busTrace := by unfold State.takeBranchValue; split <;> rfl

/-! ### The bus primitives with an answer -/

@[simp] theorem busRequest_seqState : (busRequest s).seqState = s.seqState := by simp [busRequest]
@[simp] theorem busRequest_kind : (busRequest s).kind = s.kind := by simp [busRequest]
@[simp] theorem busRequest_resultCode : (busRequest s).resultCode = s.resultCode := by simp [busRequest]
@[simp] theorem busRequest_crcPass : (busRequest s).crcPass = s.crcPass := by simp [busRequest]
@[simp] theorem busRequest_cmdErr : (busRequest s).cmdErr = s.cmdErr := by simp [busRequest]
@[simp] theorem busRequest_adapterErr : (busRequest s).adapterErr = s.adapterErr := by simp [busRequest]
@[simp] theorem busRequest_crcValid : (busRequest s).crcValid = s.crcValid := by simp [busRequest]
@[simp] theorem busRequest_crcData : (busRequest s).crcData = s.crcData := by simp [busRequest]
@[simp] theorem busRequest_crcChk : (busRequest s).crcChk = s.crcChk := by simp [busRequest]
@[simp] theorem busRequest_crcRem : (busRequest s).crcRem = s.crcRem := by simp [busRequest]
@[simp] theorem busRequest_result : (busRequest s).result = s.result := by simp [busRequest]
@[simp] theorem busRequest_attempt : (busRequest s).attempt = s.attempt := by simp [busRequest]
@[simp] theorem busRequest_delay : (busRequest s).delay = s.delay := by simp [busRequest]
@[simp] theorem busRequest_seqRaw : (busRequest s).seqRaw = s.seqRaw := by simp [busRequest]
@[simp] theorem busRequest_seqChk : (busRequest s).seqChk = s.seqChk := by simp [busRequest]
@[simp] theorem busRequest_boot : (busRequest s).boot = s.boot := by simp [busRequest]
@[simp] theorem busRequest_hostProgram : (busRequest s).hostProgram = s.hostProgram := by simp [busRequest]
@[simp] theorem busRequest_hostPc : (busRequest s).hostPc = s.hostPc := by simp [busRequest]
@[simp] theorem busRequest_hostLast : (busRequest s).hostLast = s.hostLast := by simp [busRequest]
@[simp] theorem busRequest_schedule : (busRequest s).schedule = s.schedule := by simp [busRequest]
@[simp] theorem busRequest_byteAnswers : (busRequest s).byteAnswers = s.byteAnswers := by simp [busRequest]

@[simp] theorem busRead_seqState : (busRead s).seqState = s.seqState := by simp [busRead]
@[simp] theorem busRead_kind : (busRead s).kind = s.kind := by simp [busRead]
@[simp] theorem busRead_resultCode : (busRead s).resultCode = s.resultCode := by simp [busRead]
@[simp] theorem busRead_crcPass : (busRead s).crcPass = s.crcPass := by simp [busRead]
@[simp] theorem busRead_cmdErr : (busRead s).cmdErr = s.cmdErr := by simp [busRead]
@[simp] theorem busRead_adapterErr : (busRead s).adapterErr = s.adapterErr := by simp [busRead]
@[simp] theorem busRead_crcValid : (busRead s).crcValid = s.crcValid := by simp [busRead]
@[simp] theorem busRead_crcData : (busRead s).crcData = s.crcData := by simp [busRead]
@[simp] theorem busRead_crcChk : (busRead s).crcChk = s.crcChk := by simp [busRead]
@[simp] theorem busRead_crcRem : (busRead s).crcRem = s.crcRem := by simp [busRead]
@[simp] theorem busRead_result : (busRead s).result = s.result := by simp [busRead]
@[simp] theorem busRead_attempt : (busRead s).attempt = s.attempt := by simp [busRead]
@[simp] theorem busRead_delay : (busRead s).delay = s.delay := by simp [busRead]
@[simp] theorem busRead_seqRaw : (busRead s).seqRaw = s.seqRaw := by simp [busRead]
@[simp] theorem busRead_seqChk : (busRead s).seqChk = s.seqChk := by simp [busRead]
@[simp] theorem busRead_boot : (busRead s).boot = s.boot := by simp [busRead]
@[simp] theorem busRead_hostProgram : (busRead s).hostProgram = s.hostProgram := by simp [busRead]
@[simp] theorem busRead_hostPc : (busRead s).hostPc = s.hostPc := by simp [busRead]
@[simp] theorem busRead_hostLast : (busRead s).hostLast = s.hostLast := by simp [busRead]
@[simp] theorem busRead_schedule : (busRead s).schedule = s.schedule := by simp [busRead]
@[simp] theorem busRead_availAnswers : (busRead s).availAnswers = s.availAnswers := by simp [busRead]

/-- A poll puts the primitive and its answer at the end of the trace. -/
@[simp] theorem busRequest_busTrace : (busRequest s).busTrace
    = s.busTrace ++ [.requestBytes Config.devAddr readCount s.nextAvailable] := by simp [busRequest]

/-- A byte read puts the primitive and its answer at the end of the trace. -/
@[simp] theorem busRead_busTrace : (busRead s).busTrace = s.busTrace ++ [.readByte s.nextByte] := by
  simp [busRead]

/-- A scheduled event is the one taken. -/
theorem nextEvent_of_schedule {e : Event} {rest : List Event} (h : s.schedule = e :: rest) : s.nextEvent = e := by
  simp [State.nextEvent, h]

/-- Taking a scheduled event takes it off the schedule and nothing else. -/
theorem takeEvent_of_schedule {e : Event} {rest : List Event} (h : s.schedule = e :: rest) :
    s.takeEvent = setSchedule rest s := by
  simp [State.takeEvent, h]

/-- An input answer of `requestBytes` is the one given. -/
theorem nextAvailable_of_input {n : Byte} {rest : List Byte} (h : s.availAnswers = n :: rest) :
    s.nextAvailable = n := by
  simp [State.nextAvailable, h]

/-- Taking it takes it off the input list and nothing else. -/
theorem takeAvailable_of_input {n : Byte} {rest : List Byte} (h : s.availAnswers = n :: rest) :
    s.takeAvailable = setAvailAnswers rest s := by
  simp [State.takeAvailable, h]

/-- An input answer of `readByte` is the one given. -/
theorem nextByte_of_input {b : Byte} {rest : List Byte} (h : s.byteAnswers = b :: rest) : s.nextByte = b := by
  simp [State.nextByte, h]

/-- Taking it takes it off the input list and nothing else. -/
theorem takeByte_of_input {b : Byte} {rest : List Byte} (h : s.byteAnswers = b :: rest) :
    s.takeByte = setByteAnswers rest s := by
  simp [State.takeByte, h]

/-! ### Inputs and the schedule do not meddle -/

@[simp] theorem nextAvailable_setSchedule (events : List Event) :
    (setSchedule events s).nextAvailable = s.nextAvailable := rfl

@[simp] theorem takeAvailable_setSchedule (events : List Event) :
    (setSchedule events s).takeAvailable = setSchedule events s.takeAvailable := by
  unfold State.takeAvailable
  simp only [setSchedule_availAnswers]
  split <;> rfl

@[simp] theorem nextByte_setSchedule (events : List Event) : (setSchedule events s).nextByte = s.nextByte := rfl

@[simp] theorem takeByte_setSchedule (events : List Event) :
    (setSchedule events s).takeByte = setSchedule events s.takeByte := by
  unfold State.takeByte
  simp only [setSchedule_byteAnswers]
  split <;> rfl

/-- The event a step takes leaves the answers of the Bus Adapter as they are, when it stands on the schedule. -/
theorem takeEvent_nextAvailable {e : Event} {rest : List Event} (h : s.schedule = e :: rest) :
    s.takeEvent.nextAvailable = s.nextAvailable := by
  simp [takeEvent_of_schedule s h, State.nextAvailable]

end Sys2Proof.Machine
end

