-- ==== Sys2Proof/Laws/Params.lean ====
section
/-! SUPPORT. The codes of SEQ_STATE are distinct (10_state.md R29), as rewriting lemmas. -/

namespace Sys2Proof.Machine

@[simp] theorem seqIdle_ne_seqTrigger : (seqIdle = seqTrigger) = False := by decide
@[simp] theorem seqIdle_ne_seqCmdSent : (seqIdle = seqCmdSent) = False := by decide
@[simp] theorem seqIdle_ne_seqPollWait : (seqIdle = seqPollWait) = False := by decide
@[simp] theorem seqIdle_ne_seqPollReq : (seqIdle = seqPollReq) = False := by decide
@[simp] theorem seqIdle_ne_seqDataReady : (seqIdle = seqDataReady) = False := by decide
@[simp] theorem seqIdle_ne_seqCrcCheck : (seqIdle = seqCrcCheck) = False := by decide
@[simp] theorem seqTrigger_ne_seqIdle : (seqTrigger = seqIdle) = False := by decide
@[simp] theorem seqTrigger_ne_seqCmdSent : (seqTrigger = seqCmdSent) = False := by decide
@[simp] theorem seqTrigger_ne_seqPollWait : (seqTrigger = seqPollWait) = False := by decide
@[simp] theorem seqTrigger_ne_seqPollReq : (seqTrigger = seqPollReq) = False := by decide
@[simp] theorem seqTrigger_ne_seqDataReady : (seqTrigger = seqDataReady) = False := by decide
@[simp] theorem seqTrigger_ne_seqCrcCheck : (seqTrigger = seqCrcCheck) = False := by decide
@[simp] theorem seqCmdSent_ne_seqIdle : (seqCmdSent = seqIdle) = False := by decide
@[simp] theorem seqCmdSent_ne_seqTrigger : (seqCmdSent = seqTrigger) = False := by decide
@[simp] theorem seqCmdSent_ne_seqPollWait : (seqCmdSent = seqPollWait) = False := by decide
@[simp] theorem seqCmdSent_ne_seqPollReq : (seqCmdSent = seqPollReq) = False := by decide
@[simp] theorem seqCmdSent_ne_seqDataReady : (seqCmdSent = seqDataReady) = False := by decide
@[simp] theorem seqCmdSent_ne_seqCrcCheck : (seqCmdSent = seqCrcCheck) = False := by decide
@[simp] theorem seqPollWait_ne_seqIdle : (seqPollWait = seqIdle) = False := by decide
@[simp] theorem seqPollWait_ne_seqTrigger : (seqPollWait = seqTrigger) = False := by decide
@[simp] theorem seqPollWait_ne_seqCmdSent : (seqPollWait = seqCmdSent) = False := by decide
@[simp] theorem seqPollWait_ne_seqPollReq : (seqPollWait = seqPollReq) = False := by decide
@[simp] theorem seqPollWait_ne_seqDataReady : (seqPollWait = seqDataReady) = False := by decide
@[simp] theorem seqPollWait_ne_seqCrcCheck : (seqPollWait = seqCrcCheck) = False := by decide
@[simp] theorem seqPollReq_ne_seqIdle : (seqPollReq = seqIdle) = False := by decide
@[simp] theorem seqPollReq_ne_seqTrigger : (seqPollReq = seqTrigger) = False := by decide
@[simp] theorem seqPollReq_ne_seqCmdSent : (seqPollReq = seqCmdSent) = False := by decide
@[simp] theorem seqPollReq_ne_seqPollWait : (seqPollReq = seqPollWait) = False := by decide
@[simp] theorem seqPollReq_ne_seqDataReady : (seqPollReq = seqDataReady) = False := by decide
@[simp] theorem seqPollReq_ne_seqCrcCheck : (seqPollReq = seqCrcCheck) = False := by decide
@[simp] theorem seqDataReady_ne_seqIdle : (seqDataReady = seqIdle) = False := by decide
@[simp] theorem seqDataReady_ne_seqTrigger : (seqDataReady = seqTrigger) = False := by decide
@[simp] theorem seqDataReady_ne_seqCmdSent : (seqDataReady = seqCmdSent) = False := by decide
@[simp] theorem seqDataReady_ne_seqPollWait : (seqDataReady = seqPollWait) = False := by decide
@[simp] theorem seqDataReady_ne_seqPollReq : (seqDataReady = seqPollReq) = False := by decide
@[simp] theorem seqDataReady_ne_seqCrcCheck : (seqDataReady = seqCrcCheck) = False := by decide
@[simp] theorem seqCrcCheck_ne_seqIdle : (seqCrcCheck = seqIdle) = False := by decide
@[simp] theorem seqCrcCheck_ne_seqTrigger : (seqCrcCheck = seqTrigger) = False := by decide
@[simp] theorem seqCrcCheck_ne_seqCmdSent : (seqCrcCheck = seqCmdSent) = False := by decide
@[simp] theorem seqCrcCheck_ne_seqPollWait : (seqCrcCheck = seqPollWait) = False := by decide
@[simp] theorem seqCrcCheck_ne_seqPollReq : (seqCrcCheck = seqPollReq) = False := by decide
@[simp] theorem seqCrcCheck_ne_seqDataReady : (seqCrcCheck = seqDataReady) = False := by decide

end Sys2Proof.Machine
end

