-- ==== Sys2Proof/Laws/Ops.lean ====
section
/-! SUPPORT. What each shared operation, each step of an agent and the step of the machine can do, said once. -/

namespace Sys2Proof.Machine

variable {s t : State}

/-! ### BUSY and STATUS -/

/-- BUSY is SEQ_STATE ≠ IDLE (R23). -/
@[simp] theorem busy_iff : s.busy = true ↔ s.seqState ≠ seqIdle := by simp [State.busy]

/-- Not BUSY is SEQ_STATE = IDLE (R23). -/
@[simp] theorem not_busy_iff : s.busy = false ↔ s.seqState = seqIdle := by simp [State.busy]

/-! ### Commands and register writes -/

/-- A MEAS_* in IDLE is accepted (R131). -/
theorem measAccept_idle {k : Kind} (b : s.boot.met = true) (h : s.seqState = seqIdle) :
    measAccept k s = .next (startMeasurement k s) := by
  simp [measAccept, State.busy, b, h]

/-- While BUSY it is rejected with CMD_ERR (R131). -/
theorem measAccept_busy {k : Kind} (b : s.boot.met = true) (h : s.seqState ≠ seqIdle) :
    measAccept k s = .next (recordCmdErr s) := by
  simp [measAccept, State.busy, b, h]

/-- Before the boot requirements are met it is refused (R214). -/
theorem measAccept_unmet {k : Kind} (b : s.boot.met = false) : measAccept k s = .refused .bootRequirementsUnmet := by
  simp [measAccept, b]

/-- What one instruction can do to a state that it leads on from. -/
def Effect (s t : State) : Prop :=
  t = s ∨ (∃ v, t = deliverRead v s) ∨ (∃ d, t = writeCrcData d s) ∨ (∃ d, t = writeCrcChk d s) ∨ t = verify s
    ∨ t = recordCmdErr s ∨ ∃ k, s.boot.met = true ∧ s.seqState = seqIdle ∧ t = startMeasurement k s

/-- All a MEAS_* can do (R131, R214). -/
theorem measAccept_cases (k : Kind) :
    (s.boot.met = false ∧ measAccept k s = .refused .bootRequirementsUnmet)
      ∨ ∃ t, measAccept k s = .next t ∧ Effect s t := by
  cases b : s.boot.met with
  | false => exact .inl ⟨rfl, measAccept_unmet b⟩
  | true =>
    by_cases h : s.seqState = seqIdle
    · exact .inr ⟨_, measAccept_idle b h, .inr (.inr (.inr (.inr (.inr (.inr ⟨k, b, h, rfl⟩)))))⟩
    · exact .inr ⟨_, measAccept_busy b h, .inr (.inr (.inr (.inr (.inr (.inl rfl)))))⟩

/-- All a command value can do (R83). -/
theorem executeCommand_cases (op : Byte) :
    ((op = 0x02 ∨ op = 0x03) ∧ s.boot.met = false ∧ executeCommand op s = .refused .bootRequirementsUnmet)
      ∨ ∃ t, executeCommand op s = .next t ∧ Effect s t := by
  unfold executeCommand
  split_ifs with h0 h1 h2 h3
  · exact .inr ⟨_, rfl, .inl rfl⟩
  · exact .inr ⟨_, rfl, .inr (.inr (.inr (.inr (.inl rfl))))⟩
  · exact (measAccept_cases .humidity).imp (fun h => ⟨.inl h2, h⟩) id
  · exact (measAccept_cases .temperature).imp (fun h => ⟨.inr h3, h⟩) id
  · exact .inr ⟨_, rfl, .inr (.inr (.inr (.inr (.inr (.inl rfl)))))⟩

/-- All an instruction can do: it goes on with one of the effects, or it asks for a measurement that R214 leaves without
a meaning. -/
theorem exec_cases (i : Instr) :
    (asksMeasurement i = true ∧ s.boot.met = false ∧ exec i s = .refused .bootRequirementsUnmet)
      ∨ ∃ t, exec i s = .next t ∧ Effect s t := by
  cases i with
  | rd reg => exact .inr ⟨_, rfl, .inr (.inl ⟨_, rfl⟩)⟩
  | wr reg data =>
    cases reg with
    | cmd => exact (executeCommand_cases (opOf data)).imp (fun h => ⟨by simpa [asksMeasurement] using h.1, h.2⟩) id
    | crcData => exact .inr ⟨_, rfl, .inr (.inr (.inl ⟨_, rfl⟩))⟩
    | crcChk => exact .inr ⟨_, rfl, .inr (.inr (.inr (.inl ⟨_, rfl⟩)))⟩
    | _ => exact .inr ⟨_, rfl, .inl rfl⟩
  | nop => exact .inr ⟨_, rfl, .inl rfl⟩
  | verify => exact .inr ⟨_, rfl, .inr (.inr (.inr (.inr (.inl rfl))))⟩
  | measRh => exact (measAccept_cases .humidity).imp (fun h => ⟨rfl, h⟩) id
  | measT => exact (measAccept_cases .temperature).imp (fun h => ⟨rfl, h⟩) id

/-- Where an instruction goes on, this is all it can have done. -/
theorem exec_effect {i : Instr} (h : exec i s = .next t) : Effect s t := by
  rcases exec_cases (s := s) i with ⟨-, -, h'⟩ | ⟨u, h', he⟩ <;> rw [h] at h' <;> cases h'
  exact he

/-- Every instruction goes on where the boot requirements are met, and one that asks for no measurement everywhere
(R84, R190, R214). -/
theorem exec_next {i : Instr} (h : s.boot.met = true ∨ asksMeasurement i = false) : ∃ t, exec i s = .next t := by
  rcases exec_cases (s := s) i with ⟨ha, hb, -⟩ | ⟨u, h', -⟩
  · rw [ha, hb] at h
    rcases h with h | h <;> cases h
  · exact ⟨u, h'⟩

/-! ### Boot requirements -/

/-- Meeting a requirement loses none (R215). -/
theorem Boot.meet_met {b : Boot} (r : BootRequirement) (h : b.met = true) : (b.meet r).met = true := by
  cases r <;> simp_all [Boot.met, Boot.meet]

/-! ### The Sequencer and the tick -/

/-- ADAPTER_ERR after an answer, and nothing else (R139). -/
def notedAnswer (n : Byte) (s : State) : State := if 3 < n.toNat then recordAdapterErr s else s

/-- A failed poll ends in TIMEOUT at the bound and waits again below it (R139). -/
theorem pollFailed_eq (n : Byte) : pollFailed n s =
    if s.attempt + 1 = maxAttempts then
      endMeasurement .timeout sentTimeout (setAttempt (s.attempt + 1) (notedAnswer n s))
    else enterPollWait (setAttempt (s.attempt + 1) (notedAnswer n s)) := by
  have h : (notedAnswer n s).attempt = s.attempt := by unfold notedAnswer; split <;> simp
  unfold pollFailed notedAnswer at *
  simp [h]

/-- Noting an answer touches ADAPTER_ERR alone (R139). -/
theorem notedAnswer_eq (n : Byte) : notedAnswer n s = { s with adapterErr := s.adapterErr || decide (3 < n.toNat) } := by
  unfold notedAnswer
  split <;> simp [*, recordAdapterErr]

/-- All a tick can do (R137). -/
theorem tick_cases :
    (s.seqState ≠ seqPollWait ∧ tick s = s)
      ∨ (s.seqState = seqPollWait ∧ s.delay - 1 = 0 ∧ tick s = goto seqPollReq (countDown s))
      ∨ (s.seqState = seqPollWait ∧ s.delay - 1 ≠ 0 ∧ tick s = countDown s) := by
  unfold tick
  by_cases h : s.seqState = seqPollWait
  · by_cases h0 : s.delay - 1 = 0
    · exact .inr (.inl ⟨h, h0, by rw [if_pos h, if_pos (by simpa using h0)]⟩)
    · exact .inr (.inr ⟨h, h0, by rw [if_pos h, if_neg (by simpa using h0)]⟩)
  · exact .inl ⟨h, if_neg h⟩

/-! ### The Sequencer, state by state -/

@[simp] theorem sequencerStep_idle (h : s.seqState = seqIdle) : sequencerStep s = .next s := by
  simp [sequencerStep, h]

@[simp] theorem sequencerStep_pollWait (h : s.seqState = seqPollWait) : sequencerStep s = .next s := by
  simp [sequencerStep, h]

@[simp] theorem sequencerStep_trigger (h : s.seqState = seqTrigger) : sequencerStep s = .next (stepTrigger s) := by
  simp [sequencerStep, h]

@[simp] theorem sequencerStep_cmdSent (h : s.seqState = seqCmdSent) : sequencerStep s = .next (stepCmdSent s) := by
  simp [sequencerStep, h]

@[simp] theorem sequencerStep_pollReq (h : s.seqState = seqPollReq) : sequencerStep s = .next (stepPollReq s) := by
  simp [sequencerStep, h]

@[simp] theorem sequencerStep_dataReady (h : s.seqState = seqDataReady) : sequencerStep s = .next (stepDataReady s) := by
  simp [sequencerStep, h]

@[simp] theorem sequencerStep_crcCheck (h : s.seqState = seqCrcCheck) : sequencerStep s = .next (stepCrcCheck s) := by
  simp [sequencerStep, h]

/-- All a Sequencer event that goes on can do (R134). -/
theorem sequencerStep_cases (h : sequencerStep s = .next t) :
    ((s.seqState = seqIdle ∨ s.seqState = seqPollWait) ∧ t = s)
      ∨ (s.seqState = seqTrigger ∧ t = stepTrigger s) ∨ (s.seqState = seqCmdSent ∧ t = stepCmdSent s)
      ∨ (s.seqState = seqPollReq ∧ t = stepPollReq s) ∨ (s.seqState = seqDataReady ∧ t = stepDataReady s)
      ∨ (s.seqState = seqCrcCheck ∧ t = stepCrcCheck s) := by
  unfold sequencerStep at h
  split_ifs at h <;> cases h <;> simp_all

/-- In a named SEQ_STATE a Sequencer event goes on (R29, R134). -/
theorem sequencerStep_next (h : s.seqState.toNat ≤ 6) : ∃ t, sequencerStep s = .next t := by
  unfold sequencerStep
  split_ifs with h0 h1 h2 h3 h4 h5 h6 <;> first | exact ⟨_, rfl⟩ | skip
  simp only [← BitVec.toNat_inj] at h0 h1 h2 h3 h4 h5 h6
  simp only [seqIdle, seqTrigger, seqCmdSent, seqPollWait, seqPollReq, seqDataReady, seqCrcCheck,
    BitVec.ofNat_eq_ofNat, BitVec.reduceToNat] at h0 h1 h2 h3 h4 h5 h6
  omega

/-! ### The Host -/

/-- All a Host step can do: it goes on, but for a MEAS_* that R214 leaves without a meaning. -/
theorem hostStep_cases :
    (s.hostProgram[s.hostPc]? = none ∧ hostStep s = .next s)
      ∨ (∃ w u, s.hostProgram[s.hostPc]? = some (.txn w) ∧ exec (decode w) s = .next u
          ∧ hostStep s = .next (setHostPc (u.hostPc + 1) u))
      ∨ (∃ w, s.hostProgram[s.hostPc]? = some (.txn w) ∧ asksMeasurement (decode w) = true ∧ s.boot.met = false
          ∧ hostStep s = .refused .bootRequirementsUnmet)
      ∨ (∃ pc, hostStep s = .next (setHostPc pc s.takeBranchValue)) := by
  unfold hostStep
  cases hop : s.hostProgram[s.hostPc]? with
  | none => exact .inl ⟨rfl, rfl⟩
  | some op =>
    cases op with
    | txn w =>
      rcases exec_cases (s := s) (decode w) with ⟨ha, hb, hr⟩ | ⟨u, hu, -⟩
      · exact .inr (.inr (.inl ⟨w, rfl, ha, hb, by simp [hr, passOp]⟩))
      · exact .inr (.inl ⟨w, u, rfl, hu, by simp [hu, passOp]⟩)
    | bz target mask => exact .inr (.inr (.inr ⟨_, rfl⟩))
    | bnz target mask => exact .inr (.inr (.inr ⟨_, rfl⟩))

/-- What a Host step does to the block: one transaction's effect or nothing; beside it only the Host's place and the
counter of free values move. -/
theorem hostStep_effect (h : hostStep s = .next t) :
    ∃ u, Effect s u ∧ ∃ pc n, t = { u with hostPc := pc, freeIndex := n } := by
  rcases hostStep_cases (s := s) with ⟨-, h'⟩ | ⟨w, u, -, hu, h'⟩ | ⟨w, -, -, -, h'⟩ | ⟨pc, h'⟩ <;> rw [h] at h' <;>
    cases h'
  · exact ⟨s, .inl rfl, s.hostPc, s.freeIndex, rfl⟩
  · exact ⟨u, exec_effect hu, _, u.freeIndex, rfl⟩
  · refine ⟨s, .inl rfl, pc, s.takeBranchValue.freeIndex, ?_⟩
    unfold State.takeBranchValue
    split <;> rfl

/-! ### The step -/

/-- With an event on the schedule, the step is that event's step on the state without it (R63). -/
theorem step_of_schedule {e : Event} {rest : List Event} (h : s.schedule = e :: rest) :
    step s = eventStep e (setSchedule rest s) := by
  simp [step, nextEvent_of_schedule s h, takeEvent_of_schedule s h]

/-- All a step that goes on can be, by its event (R63). -/
theorem step_cases (h : step s = .next t) :
    (s.nextEvent = .host ∧ hostStep s.takeEvent = .next t)
      ∨ (s.nextEvent = .sequencer ∧ sequencerStep s.takeEvent = .next t)
      ∨ (s.nextEvent = .tick ∧ t = tick s.takeEvent)
      ∨ (s.nextEvent = .reset ∧ t = resetBlock s.takeEvent)
      ∨ (∃ r, s.nextEvent = .environment r ∧ t = meetRequirement r s.takeEvent) := by
  unfold step at h
  cases he : s.nextEvent <;> simp only [he, eventStep] at h
  · exact .inl ⟨rfl, h⟩
  · exact .inr (.inl ⟨rfl, h⟩)
  · cases h; simp
  · cases h; simp
  · cases h; exact .inr (.inr (.inr (.inr ⟨_, rfl, rfl⟩)))

end Sys2Proof.Machine
end

