-- ==== Sys2Proof/Laws/PerInstr.lean ====
section
/-! SUPPORT. Facts about every instruction as syntax, one lemma per constructor. -/

namespace Sys2Proof.Laws

/-- WE of an instruction's word says whether it writes: a RegRead has WE = 0, every other instruction is a RegWrite
(30_encoding.md R81, R82). -/
def WriteEnable.Statement (i : Instr) : Prop := htwWe (encode i) = !(i matches .rd _)

theorem WriteEnable.rd (reg : Reg) : WriteEnable.Statement (.rd reg) := htwWe_htwOf _ _ _

theorem WriteEnable.wr (reg : Reg) (data : Data) : WriteEnable.Statement (.wr reg data) := htwWe_htwOf _ _ _

theorem WriteEnable.nop : WriteEnable.Statement .nop := htwWe_htwOf _ _ _

theorem WriteEnable.verify : WriteEnable.Statement .verify := htwWe_htwOf _ _ _

theorem WriteEnable.measRh : WriteEnable.Statement .measRh := htwWe_htwOf _ _ _

theorem WriteEnable.measT : WriteEnable.Statement .measT := htwWe_htwOf _ _ _

end Sys2Proof.Laws
end

