-- ==== Sys2Proof/Laws/Verifier.lean ====
section
/-! SUPPORT. The division loop of the verifier, one step at a time (40_crc_verifier.md R101). -/

namespace Sys2Proof.Machine

/-- At step i the divisor is GEN >> i, whatever the operands (R90, R101). -/
theorem crcDivide_divisor (raw : Data) (chk : Byte) (i : Nat) : (crcDivide raw chk i).2 = gen >>> i := by
  induction i with
  | zero => simp [crcDivide]
  | succ i ih => simp [crcDivide, ih, BitVec.shiftRight_add]

/-- One division step on the remainder (R101). -/
theorem crcDivide_remainder (raw : Data) (chk : Byte) (i : Nat) : (crcDivide raw chk (i + 1)).1 =
    if (crcDivide raw chk i).1.getLsbD (23 - i) then (crcDivide raw chk i).1 ^^^ (gen >>> i)
    else (crcDivide raw chk i).1 := by
  simp [crcDivide, crcDivide_divisor]

/-- Before the first step the remainder is the dividend (R88). -/
theorem crcDivide_zero (raw : Data) (chk : Byte) : crcDivide raw chk 0 = (dividend raw chk, gen) := rfl

end Sys2Proof.Machine
end

