-- ==== Sys2Proof/Tests/Slice0.lean ====
section
/-! SUPPORT. Tests: the well-formedness check refuses, words written bit by bit from 30_encoding.md decode, the spec's
own vectors (95_test_vectors.md, named L1-… and L2-… there), and for every statement with hypotheses a witness that
meets them. -/

namespace Sys2Proof.Tests

open Sys2Proof Sys2Proof.Machine

set_option Elab.async false

/-- The next state of an outcome, if it is one. -/
def after (o : Host.Outcome State Fault Refusal) : Option State :=
  match o with
  | .next s => some s
  | .fault _ => none
  | .refused _ => none

/-! ### Well-formedness: the one check, and the terms that pass it -/

theorem test_wf_refuses_cmd_write_of_a_command :
    (Instr.wr .cmd 0x0001).wf = false ∧ (Instr.wr .cmd 0x1203).wf = false := by decide

theorem test_wf_accepts_reserved_values_and_the_rest :
    (Instr.wr .cmd 0x0004).wf = true ∧ (Instr.wr .cmd 0x00FF).wf = true ∧ (Instr.wr .crcData 0x0001).wf = true
      ∧ (Instr.rd .cmd).wf = true ∧ Instr.nop.wf = true ∧ Instr.verify.wf = true ∧ Instr.measRh.wf = true
      ∧ Instr.measT.wf = true := by decide

/-! ### Decoding: WE[19] IDX[18:16] DATA[15:0], written out from R81; commands from R83 -/

/-- RD: `0 iii dddd dddd dddd dddd`, d ignored. -/
theorem test_decode_rd :
    decode 0b00010000000000000000 = .rd .status ∧ decode 0b01111111111111111111 = .rd .seq
      ∧ decode 0b00000000000000000001 = .rd .cmd := by decide

/-- WR: `1 iii dddd dddd dddd dddd` (R94: `wr CRC_DATA, 0x683A` is A683A, `wr CRC_CHK, 0x007C` is B007C). -/
theorem test_decode_wr :
    decode 0b10100110100000111010 = .wr .crcData 0x683A ∧ decode 0b10110000000001111100 = .wr .crcChk 0x007C
      ∧ decode 0b11000000000001010101 = .wr .crcRem 0x0055 := by decide

/-- A reserved CMD value (R108: `wr CMD, 0x0104` has OP 0x04, L2-X3). -/
theorem test_decode_wr_reserved_command :
    decode 0b10000000000100000100 = .wr .cmd 0x0104 ∧ decode 0b10000000000011111111 = .wr .cmd 0x00FF := by decide

/-- NOP: OP 0x00; DATA[15:8] is ignored (R105: `wr CMD, 0x1200` is NOP). -/
theorem test_decode_nop :
    decode 0b10000000000000000000 = .nop ∧ decode 0b10000001001000000000 = .nop := by decide

/-- VERIFY: OP 0x01 (R108: `wr CMD, 0x0401` is VERIFY). -/
theorem test_decode_verify :
    decode 0b10000000000000000001 = .verify ∧ decode 0b10000000010000000001 = .verify := by decide

/-- MEAS_RH: OP 0x02. -/
theorem test_decode_measRh : decode 0b10000000000000000010 = .measRh := by decide

/-- MEAS_T: OP 0x03. -/
theorem test_decode_measT : decode 0b10000000000000000011 = .measT := by decide

/-- Table words: 8 bits are a CMD8 value, 20 (24 in whole bytes) an HTW. -/
theorem test_decodeTableWord :
    decodeTableWord 8 0x01 = some .verify ∧ decodeTableWord 8 0x03 = some .measT
      ∧ decodeTableWord 20 0x10000 = some (.rd .status) ∧ decodeTableWord 24 0xA683A = some (.wr .crcData 0x683A) := by
  decide

/-- What no format has is refused by name. -/
theorem test_decodeTable_refuses_by_name :
    decodeTable 16 0x0001 = .error .noSuchFormat ∧ decodeTable 8 0x100 = .error .bitsAboveFormat
      ∧ decodeTable 24 0x100000 = .error .bitsAboveFormat ∧ decodeTableWord 32 0 = none := by
  refine ⟨rfl, rfl, rfl, rfl⟩

/-! ### The instructions on the spec's vectors -/

/-- L2-V11's operands: CRC_DATA = 0x683A, CRC_CHK = 0x7C. -/
def goodFrame : State := { State.reset with crcData := 0x683A, crcChk := 0x7C }

/-- L2-M4's state: POLL_WAIT, KIND 0, DELAY 6. -/
def polling : State := { State.reset with seqState := 3, delay := 6 }

/-- R51: an 8-bit register is zero-extended, and the read changes no register. -/
theorem test_rd_zero_extends :
    after (exec (.rd .crcChk) goodFrame) = some { goodFrame with hostLast := some 0x007C } := by decide +kernel

/-- The bits of STATUS by R22's table: BUSY 0x01, KIND 0x02, TIMEOUT 0x08, CMD_ERR 0x20, CRC_VALID 0x80. -/
theorem test_rd_status_bits :
    (after (exec (.rd .status) { polling with
      kind := .temperature, resultCode := .timeout, cmdErr := true, crcValid := true })).map (·.hostLast)
      = some (some 0x00AB) := by decide +kernel

/-- L2-V14: `wr CRC_CHK, 0x127C`. -/
theorem test_wr_drops_high_byte :
    after (exec (.wr .crcChk 0x127C) State.reset) = some { State.reset with crcChk := 0x7C } := by decide +kernel

/-- L2-X3: `wr CMD, 0x0104` sets CMD_ERR alone. -/
theorem test_wr_reserved_command :
    after (exec (.wr .cmd 0x0104) State.reset) = some { State.reset with cmdErr := true } := by decide +kernel

/-- L2-N3: NOP while a measurement runs. -/
theorem test_nop_while_busy : after (exec .nop polling) = some polling := by decide +kernel

/-- L2-V11: VERIFY of a good frame: CRC_REM 0x00, STATUS 0x90. -/
theorem test_verify_passes :
    (after (exec .verify goodFrame)).map (fun t => (t.crcRem, t.status)) = some (0x00, 0x90) := by decide +kernel

/-- L2-V12: then of a bad one: CRC_REM 0x01, STATUS 0x80. -/
theorem test_verify_fails :
    (after (exec .verify { goodFrame with crcChk := 0x7D, crcPass := true, crcValid := true })).map
      (fun t => (t.crcRem, t.status)) = some (0x01, 0x80) := by decide +kernel

/-- L2-M1: MEAS_RH from reset: STATUS 0x01. -/
theorem test_measRh_accepted :
    (after (exec .measRh State.reset)).map (fun t => (t.status, t.seqState)) = some (0x01, 1) := by decide +kernel

/-- MEAS_RH while a temperature measurement runs changes CMD_ERR alone (R132). -/
theorem test_measRh_rejected :
    after (exec .measRh { polling with kind := .temperature })
      = some { polling with kind := .temperature, cmdErr := true } := by decide +kernel

/-- L2-M3: MEAS_T after an OK run clears its outcome: STATUS 0x03. -/
theorem test_measT_clears_outcome :
    (after (exec .measT { State.reset with result := 0x6838, resultCode := .ok, attempt := 2 })).map
      (fun t => (t.status, t.result, t.attempt, t.seqState)) = some (0x03, 0x0000, 0, 1) := by decide +kernel

/-- L2-M4: MEAS_T while BUSY: STATUS 0x21, DELAY 6. -/
theorem test_measT_rejected :
    (after (exec .measT polling)).map (fun t => (t.status, t.delay, t.seqState)) = some (0x21, 6, 3) := by
  decide +kernel

/-- An environment in which the Time Source is not started (R214 (4)). -/
def unbooted : State := { goodFrame with boot := { goodFrame.boot with timeSourceStarted := false } }

/-- R214: a MEAS_T there is refused, a VERIFY is not. -/
theorem test_boot_requirements :
    exec .measT unbooted = .refused .bootRequirementsUnmet
      ∧ (after (exec .verify unbooted)).map (·.status) = some 0x90 := ⟨rfl, by decide +kernel⟩

/-- R215: once the environment has met the last requirement, the MEAS_RH is accepted. -/
theorem test_environment_meets_requirement :
    ((after (step { unbooted with schedule := [.environment .timeSourceStarted] })).bind
      fun t => after (exec .measRh t)).map (·.seqState) = some 1 := by decide +kernel

/-! ### The Sequencer, the tick and reset on the spec's vectors -/

/-- A Sequencer event in a given SEQ_STATE. -/
def sequencerAt (st : BitVec 4) : State := { State.reset with seqState := st, schedule := [.sequencer] }

/-- L2-M6: the trigger of a temperature measurement. -/
theorem test_trigger_trace :
    (after (step { sequencerAt 1 with kind := .temperature })).map (fun t => (t.busTrace, t.seqState)) =
      some ([.startTransaction Config.devAddr, .writeByte Config.cmdTrigT, .endTransaction], 2) := rfl

/-- L2-M11: an answer of 4 is an adapter error and a failed poll; no byte is read. -/
theorem test_poll_answers_four :
    (after (step { sequencerAt 4 with availAnswers := [4], byteAnswers := [0xAA] })).map
      (fun t => (t.adapterErr, t.attempt, t.delay, t.seqState, t.byteAnswers)) = some (true, 1, 10, 3, [0xAA]) := by
  decide +kernel

/-- L2-M12: the tenth failed poll: STATUS 0x08, RESULT 998, ATTEMPT 10. -/
theorem test_tenth_poll_fails :
    (after (step { sequencerAt 4 with attempt := 9, availAnswers := [2] })).map
      (fun t => (t.status, t.result, t.attempt, t.seqState)) = some (0x08, 0x03E6, 10, 0) := by decide +kernel

/-- L2-M13: the tenth poll may succeed. -/
theorem test_tenth_poll_succeeds :
    (after (step { sequencerAt 4 with attempt := 9, availAnswers := [3] })).map
      (fun t => (t.attempt, t.seqState)) = some (9, 5) := by decide +kernel

/-- L2-M16: DATA_READY latches bytes in bus order. -/
theorem test_dataReady_byte_order :
    (after (step { sequencerAt 5 with byteAnswers := [0x68, 0x3A, 0x7D] })).map
      (fun t => (t.seqRaw, t.seqChk, t.seqState)) = some (0x683A, 0x7D, 6) := by decide +kernel

/-- L2-M22: CRC_CHECK masks after the pass: RESULT 0x03E4, STATUS 0x06. -/
theorem test_crcCheck_passes :
    (after (step { sequencerAt 6 with seqRaw := 0x03E7, seqChk := 0x7B, kind := .temperature })).map
      (fun t => (t.result, t.status)) = some (0x03E4, 0x06) := by decide +kernel

/-- L2-M23: a failing frame ends with 999 and no part of the raw value. -/
theorem test_crcCheck_fails :
    (after (step { sequencerAt 6 with seqRaw := 0x1237, seqChk := 0x00 })).map
      (fun t => (t.result, t.status)) = some (0x03E7, 0x0C) := by decide +kernel

/-- L2-M9 and L2-M10: a tick in POLL_WAIT at DELAY 1, and a tick in POLL_REQ. -/
theorem test_tick :
    (after (step { polling with delay := 1, schedule := [.tick] })).map (fun t => (t.delay, t.seqState)) = some (0, 4)
      ∧ (after (step { polling with delay := 1, seqState := 4, schedule := [.tick] })).map
          (fun t => (t.delay, t.seqState)) = some (1, 4) := by decide +kernel

/-- L2-M24: reset in POLL_WAIT with CMD_ERR set: STATUS 0x00. -/
theorem test_reset_clears :
    (after (step { polling with cmdErr := true, attempt := 4, schedule := [.reset] })).map
      (fun t => (t.status, t.delay, t.attempt, t.busTrace)) = some (0x00, 0, 0, []) := by decide +kernel

/-- P1's first branch: after `rd STATUS` gave 0x0090, `bz bad, 0x0010` is not taken. -/
theorem test_bz_not_taken :
    (after (step { State.reset with
      hostProgram := [Asm.bz 7 0x0010], hostLast := some 0x0090, schedule := [.host] })).map (·.hostPc) = some 1 := by
  decide +kernel

/-- The CRC of 0x1237 (L2-C11) by the division and by the byte-serial form. -/
theorem test_crc_both_forms : crcOf 0x1237 = 0xE5 ∧ crcSerial 0x1237 = 0xE5 := by decide +kernel

/-! ### Witnesses of the encoding statements -/

theorem test_witness_DecodeOfEncodeIsIdentity :
    (Instr.wr .cmd 0xFF04).wf = true ∧ (Instr.wr .seq 0xFFFF).wf = true ∧ (Instr.rd .seq).wf = true := by decide

/-- One word for each branch of the statement's chain, at the edges of the command values (R84). -/
theorem test_witness_EncodeOfDecodeKeepsMeantBits :
    ((0x7FFFF : Htw).getLsbD 19 = false ∧ encode (decode 0x7FFFF) = 0x70000)
      ∧ (((0x8FF03 : Htw).extractLsb' 16 3 = 0 ∧ (0x8FF03 : Htw).extractLsb' 0 8 ≤ 3)
        ∧ encode (decode 0x8FF03) = 0x80003)
      ∧ encode (decode 0x8FF04) = 0x8FF04 ∧ encode (decode 0xFFFFF) = 0xFFFFF := by decide

/-- The register list at its ends, and each command clause. -/
theorem test_witness_DecodeFollowsFields :
    let registers := [Reg.cmd, .status, .crcData, .crcChk, .crcRem, .result, .attempts, .seq]
    registers[(0 : BitVec 3).toNat]? = some .cmd ∧ registers[(7 : BitVec 3).toNat]? = some .seq ∧ (7 : BitVec 3) ≠ 0
      ∧ (0xFF00 : Data).extractLsb' 0 8 = 0x00 ∧ (0x0001 : Data).extractLsb' 0 8 = 0x01
      ∧ (0xFF02 : Data).extractLsb' 0 8 = 0x02 ∧ (0x0003 : Data).extractLsb' 0 8 = 0x03
      ∧ 0x04 ≤ ((0x0004 : Data).extractLsb' 0 8).toNat ∧ 0x04 ≤ ((0xFFFF : Data).extractLsb' 0 8).toNat := by decide

/-! ### Witnesses of the statements on transactions -/

/-- The last clause at both ends of the reserved range; the other clauses fix `op` by equations. -/
theorem test_witness_WriteStoresOrExecutes :
    0x04 ≤ (0x04 : Byte).toNat ∧ 0x04 ≤ (0xFF : Byte).toNat ∧ ¬ 0x04 ≤ (0x03 : Byte).toNat := by decide

theorem test_witness_HostTransactionFrame :
    State.reset.boot.met = true ∧ asksMeasurement .verify = false ∧ (∃ t, exec .verify State.reset = .next t)
      ∧ ∀ reg, Instr.verify ≠ .rd reg :=
  ⟨rfl, rfl, ⟨_, rfl⟩, nofun⟩

theorem test_witness_OnlyResetCancelsMeasurement :
    ((sequencerAt 1).seqState ≠ 0 ∧ (sequencerAt 1).boot.met = true)
      ∧ ((sequencerAt 6).seqState ≠ 0 ∧ ∃ t, exec .measRh (sequencerAt 6) = .next t)
      ∧ { polling with schedule := [.reset] }.nextEvent = .reset :=
  ⟨by decide, ⟨by decide, _, rfl⟩, rfl⟩

theorem test_witness_OperandsArePlainStorage :
    ((∃ t, exec .verify goodFrame = .next t) ∧ (∀ d, Instr.verify ≠ .wr .crcData d))
      ∧ ((∃ t, exec (.wr .crcData 0) goodFrame = .next t) ∧ ∀ d, Instr.wr .crcData 0 ≠ .wr .crcChk d)
      ∧ ((sequencerAt 6).nextEvent = .sequencer ∧ ∃ t, step (sequencerAt 6) = .next t)
      ∧ ({ polling with schedule := [.tick] }.nextEvent = .tick
        ∧ ∃ t, step { polling with schedule := [.tick] } = .next t) :=
  ⟨⟨⟨_, rfl⟩, nofun⟩, ⟨⟨_, rfl⟩, nofun⟩, ⟨rfl, _, rfl⟩, rfl, _, rfl⟩

theorem test_witness_MeasurementAcceptedOrRejected :
    (State.reset.boot.met = true ∧ State.reset.seqState = 0)
      ∧ ((sequencerAt 1).boot.met = true ∧ (sequencerAt 1).seqState ≠ 0) ∧ (sequencerAt 6).seqState ≠ 0 := by decide

/-- One requirement unmet, all met, an instruction that needs none, and the two kinds of event. -/
theorem test_witness_MeasurementNeedsBootRequirements :
    (asksMeasurement .measRh = true ∧ asksMeasurement (.wr .cmd 0xFF03) = true
        ∧ unbooted.boot.timeSourceStarted = false)
      ∧ (State.reset.boot.busInitialised = true ∧ State.reset.boot.busExclusive = true
        ∧ State.reset.boot.parametersFixed = true ∧ State.reset.boot.timeSourceStarted = true)
      ∧ (asksMeasurement .verify = false ∧ asksMeasurement (.wr .cmd 0x0004) = false)
      ∧ ((∀ r, (sequencerAt 1).nextEvent ≠ .environment r) ∧ ∃ t, step (sequencerAt 1) = .next t)
      ∧ { unbooted with schedule := [.environment .busExclusive] }.schedule = .environment .busExclusive :: [] :=
  ⟨by decide, by decide, by decide, ⟨nofun, _, rfl⟩, rfl⟩

/-! ### Witnesses of the statements on the verifier -/

/-- A VERIFY, a passing pair with the end bits of a byte, and a Sequencer step. -/
theorem test_witness_VerifyWritesItsResults :
    (∃ t, exec .verify goodFrame = .next t) ∧ crc8vPass 0xFFFF 0x2D = true ∧ (0 < 8 ∧ 7 < 8)
      ∧ crc8vPass 0x683A 0x7C = true
      ∧ ((sequencerAt 6).nextEvent = .sequencer ∧ ∃ t, step (sequencerAt 6) = .next t) :=
  ⟨⟨_, rfl⟩, by decide +kernel, by decide, by decide +kernel, rfl, _, rfl⟩

/-- A passing frame, and errors of each kind: one bit at either end of the frame, odd weight, two bits. -/
theorem test_witness_FrameErrorsAreDetected :
    crc8vPass ((0x683A7C : BitVec 24).extractLsb' 8 16) ((0x683A7C : BitVec 24).extractLsb' 0 8) = true
      ∧ (∃ k < 24, (0x000001 : BitVec 24) = 1#24 <<< k) ∧ (∃ k < 24, (0x800000 : BitVec 24) = 1#24 <<< k)
      ∧ ((List.range 24).countP (0x810001 : BitVec 24).getLsbD) % 2 = 1
      ∧ (List.range 24).countP (0x800001 : BitVec 24).getLsbD = 2 := by
  decide +kernel

/-! ### Witnesses of the statements on the Sequencer and the tick -/

theorem test_witness_TriggerSendsOneByte :
    (sequencerAt 1).schedule = .sequencer :: [] ∧ (sequencerAt 1).seqState = 1 := by decide

theorem test_witness_CmdSentEntersPolling :
    (sequencerAt 2).schedule = .sequencer :: [] ∧ (sequencerAt 2).seqState = 2 := by decide

/-- The clauses at DELAY 1, 2 and 10, in another SEQ_STATE, and the full delay with its ten ticks. -/
theorem test_witness_TickCountsTheDelay :
    let ticking : State := { polling with schedule := [.tick] }
    ticking.schedule = .tick :: [] ∧ ({ ticking with delay := 1 }.seqState = 3 ∧ { ticking with delay := 1 }.delay = 1)
      ∧ { ticking with delay := 2 }.delay ≠ 1 ∧ { ticking with delay := 10 }.delay ≠ 1
      ∧ { ticking with seqState := 4 }.seqState ≠ 3
      ∧ (let full : State := { polling with delay := 10, schedule := List.replicate 10 .tick ++ [.sequencer] }
        full.schedule = List.replicate 10 .tick ++ [.sequencer] ∧ full.seqState = 3 ∧ full.delay = 10) := by
  decide

theorem test_witness_AdapterAnswersAreInputs :
    { State.reset with availAnswers := [255] }.availAnswers = 255 :: [] ∧ State.reset.availAnswers = []
      ∧ { State.reset with byteAnswers := [0x68] }.byteAnswers = 0x68 :: [] ∧ State.reset.byteAnswers = [] := by decide

/-- The answers 2, 3, 4 and 255, below the bound and at it. -/
theorem test_witness_PollFindsThreeBytesOrFails :
    let poll (attempt : BitVec 4) (n : Byte) : State := { sequencerAt 4 with attempt := attempt, availAnswers := [n] }
    ((poll 9 3).schedule = .sequencer :: [] ∧ (poll 9 3).seqState = 4 ∧ (poll 9 3).nextAvailable = 3)
      ∧ ((poll 8 2).nextAvailable = 2 ∧ (2 : Byte) ≠ 3 ∧ (poll 8 2).attempt ≠ 9)
      ∧ ((poll 0 4).nextAvailable = 4 ∧ (4 : Byte) ≠ 3 ∧ (poll 0 4).attempt ≠ 9)
      ∧ ((poll 9 255).nextAvailable = 255 ∧ (255 : Byte) ≠ 3 ∧ (poll 9 255).attempt = 9) := by decide

theorem test_witness_DataReadyLatchesFrame :
    (sequencerAt 5).schedule = .sequencer :: [] ∧ (sequencerAt 5).seqState = 5
      ∧ { sequencerAt 5 with byteAnswers := [0x68, 0x3A, 0x7C] }.byteAnswers = 0x68 :: 0x3A :: 0x7C :: [] := by decide

theorem test_witness_CrcCheckEndsMeasurement :
    let check (raw : Data) (chk : Byte) : State := { sequencerAt 6 with seqRaw := raw, seqChk := chk }
    ((check 0x683A 0x7C).schedule = .sequencer :: [] ∧ (check 0x683A 0x7C).seqState = 6
        ∧ crc8vPass (check 0x683A 0x7C).seqRaw (check 0x683A 0x7C).seqChk = true)
      ∧ crc8vPass (check 0x683A 0x7D).seqRaw (check 0x683A 0x7D).seqChk = false := by decide +kernel

theorem test_witness_SequencerWaitsInIdleAndPollWait :
    ((sequencerAt 0).schedule = .sequencer :: [] ∧ (sequencerAt 0).seqState = 0)
      ∧ ((sequencerAt 3).schedule = .sequencer :: [] ∧ (sequencerAt 3).seqState = 3) := by decide

theorem test_witness_UnnamedSeqStateIsStuck :
    ((sequencerAt 7).schedule = .sequencer :: [] ∧ 7 ≤ (sequencerAt 7).seqState.toNat)
      ∧ 7 ≤ (sequencerAt 15).seqState.toNat := by decide

theorem test_witness_KindsDifferOnlyInTriggerByte :
    (State.reset.boot.met = true ∧ State.reset.seqState = 0) ∧ (∃ t, sequencerStep (sequencerAt 1) = .next t)
      ∧ (∃ t, sequencerStep (sequencerAt 2) = .next t) ∧ ∃ t, sequencerStep (sequencerAt 6) = .next t :=
  ⟨⟨rfl, rfl⟩, ⟨_, rfl⟩, ⟨_, rfl⟩, _, rfl⟩

/-! ### Witnesses of the statements on runs and reset -/

/-- A Host about to perform one operation. -/
def hosting (op : HostOp) : State := { State.reset with hostProgram := [op], schedule := [.host] }

/-- A transaction that goes on, and one that is refused. -/
theorem test_witness_StepRunsDecodedInstruction :
    ((hosting (.txn 0x80001)).schedule = .host :: []
        ∧ (hosting (.txn 0x80001)).hostProgram[(hosting (.txn 0x80001)).hostPc]? = some (.txn 0x80001)
        ∧ ∃ t, exec (decode 0x80001) { hosting (.txn 0x80001) with schedule := [] } = .next t)
      ∧ exec (decode 0x80002) unbooted = .refused .bootRequirementsUnmet :=
  ⟨⟨rfl, rfl, _, rfl⟩, rfl⟩

theorem test_witness_FetchWordIsRunNext :
    decodeTableWord 8 0x02 = some .measRh ∧ decodeTableWord 20 0xFFFFF = some (.wr .seq 0xFFFF)
      ∧ decodeTableWord 24 0x800FF = some (.wr .cmd 0x00FF) := by decide

/-- Both branches, taken and not taken: 0x0005 and 0x0004 under the mask 0x0001. -/
theorem test_witness_HostBranchesTestLastRead :
    let reading (op : HostOp) (v : Data) : State := { hosting op with hostLast := some v }
    ((reading (.bz 9 0x0001) 0x0005).schedule = .host :: []
        ∧ (reading (.bz 9 0x0001) 0x0005).hostLast = some 0x0005
        ∧ (reading (.bz 9 0x0001) 0x0005).hostProgram[(0 : Nat)]? = some (.bz 9 0x0001)
        ∧ (0x0005 : Data) &&& 0x0001 ≠ 0)
      ∧ ((reading (.bnz 9 0x0001) 0x0004).hostLast = some 0x0004
        ∧ (reading (.bnz 9 0x0001) 0x0004).hostProgram[(0 : Nat)]? = some (.bnz 9 0x0001)
        ∧ (0x0004 : Data) &&& 0x0001 = 0) := by decide

/-- `wait_idle` behind one transaction, in IDLE and while BUSY. -/
theorem test_witness_WaitIdleLoopsWhileBusy :
    let waiting (st : BitVec 4) : State := { State.reset with
      seqState := st, schedule := [.host, .host], hostPc := 1
      hostProgram := [Asm.rd .seq] ++ Asm.waitIdle 1 ++ [Asm.rd .result] }
    (waiting 6).schedule = .host :: .host :: []
      ∧ (waiting 6).hostProgram = [Asm.rd .seq] ++ Asm.waitIdle [Asm.rd .seq].length ++ [Asm.rd .result]
      ∧ (waiting 6).hostPc = [Asm.rd .seq].length ∧ (waiting 6).seqState ≠ 0 ∧ (waiting 0).seqState = 0 := by decide

theorem test_witness_ResetRestoresRegisters :
    { polling with schedule := [.reset] }.schedule = .reset :: []
      ∧ { State.reset with schedule := [.reset] }.schedule = .reset :: []
      ∧ { State.reset with schedule := [.reset] }.seqState = 0 := by decide

/-- A step with both flags set, a reset event, and a faulted state. -/
theorem test_witness_OnlyResetClearsStickyFlags :
    let bad : State := { hosting (.txn 0x80001) with cmdErr := true, adapterErr := true }
    (∃ t, step bad = .next t) ∧ bad.nextEvent ≠ .reset ∧ bad.cmdErr = true ∧ bad.adapterErr = true
      ∧ { bad with schedule := [.reset] }.nextEvent = .reset :=
  ⟨⟨_, rfl⟩, by decide⟩

/-- A reserved value, and a MEAS_T while BUSY. -/
theorem test_witness_CommandErrorHasTwoCauses :
    (∃ t, step (hosting (.txn 0x80004)) = .next t ∧ (hosting (.txn 0x80004)).cmdErr = false ∧ t.cmdErr = true)
      ∧ ∃ t, step { hosting (.txn 0x80003) with seqState := 2 } = .next t ∧ t.cmdErr = true :=
  ⟨⟨_, rfl, rfl, rfl⟩, _, rfl, rfl⟩

theorem test_witness_AdapterErrorHasOneCause :
    ∃ t, step { sequencerAt 4 with availAnswers := [4] } = .next t
      ∧ { sequencerAt 4 with availAnswers := [4] }.adapterErr = false ∧ t.adapterErr = true :=
  ⟨_, rfl, rfl, rfl⟩

/-- A step that uses the bus in each of the three states, and one that leaves IDLE. -/
theorem test_witness_BusIsQuietUntilNextMeasurement :
    (∃ t, step (sequencerAt 1) = .next t ∧ t.busTrace ≠ (sequencerAt 1).busTrace)
      ∧ (∃ t, step { sequencerAt 4 with availAnswers := [3] } = .next t ∧ t.busTrace ≠ [])
      ∧ (∃ t, step { sequencerAt 5 with byteAnswers := [1, 2, 3] } = .next t ∧ t.busTrace ≠ [])
      ∧ ∃ t, step (hosting (.txn 0x80002)) = .next t ∧ (hosting (.txn 0x80002)).seqState = 0 ∧ t.seqState ≠ 0 :=
  ⟨⟨_, rfl, List.cons_ne_nil _ _⟩, ⟨_, rfl, List.cons_ne_nil _ _⟩, ⟨_, rfl, List.cons_ne_nil _ _⟩, _, rfl, rfl,
    by decide⟩

/-- A trace that has both kinds of addressed primitive, and a step on it. -/
theorem test_witness_BusAddressIsDeviceAddress :
    let s : State := { sequencerAt 4 with
      availAnswers := [3]
      busTrace := [.startTransaction Config.devAddr, .requestBytes Config.devAddr 3 0] }
    (∃ t, step s = .next t) ∧ (∀ a, BusEvent.startTransaction a ∈ s.busTrace → a = Config.devAddr)
      ∧ (∀ a c n, BusEvent.requestBytes a c n ∈ s.busTrace → a = Config.devAddr ∧ c = 3) := by
  refine ⟨⟨_, rfl⟩, by simp, ?_⟩
  simp only [List.mem_cons, reduceCtorEq, BusEvent.requestBytes.injEq, List.not_mem_nil, or_false, false_or]
  exact fun a c n h => ⟨h.1, h.2.1⟩

theorem test_witness_VerifyCommutesWithSequencer :
    (∃ t, eventStep .sequencer { sequencerAt 6 with crcData := 0x683A } = .next t)
      ∧ ∃ t, eventStep .tick { polling with crcData := 0x683A } = .next t :=
  ⟨⟨_, rfl⟩, _, rfl⟩

/-- A step in DATA_READY, and one in CRC_CHECK with two frames that both fail. -/
theorem test_witness_LatchedFrameIsHidden :
    ((∃ t, step (sequencerAt 5) = .next t) ∧ (sequencerAt 5).seqState ≠ 6
        ∧ (sequencerAt 5).nextEvent = .sequencer ∧ (sequencerAt 5).seqState = 5)
      ∧ ((∃ t, step { sequencerAt 6 with seqRaw := 0x683A, seqChk := 0x7D } = .next t)
        ∧ crc8vPass 0x683A 0x7D = false ∧ crc8vPass 0x1237 0x00 = false) :=
  ⟨⟨⟨_, rfl⟩, by decide⟩, ⟨_, rfl⟩, by decide +kernel⟩

theorem test_witness_ResultWrittenByLastStepOnly :
    ∃ t, step (sequencerAt 1) = .next t ∧ (sequencerAt 1).seqState ≠ 0 ∧ t.seqState ≠ 0 :=
  ⟨_, rfl, by decide, by decide⟩

/-! ### Witnesses of the statements that assume the invariant -/

/-- The invariant of a state without an outcome, with nothing verified, before the first poll is answered. -/
theorem inv_before_first_poll (s : State) (named : s.seqState.toNat ≤ 4)
    (delay : s.seqState = seqPollWait → 1 ≤ s.delay.toNat ∧ s.delay.toNat ≤ 10) (attempt : s.attempt = 0)
    (boot : s.boot.met = true) (code : s.resultCode = .none) (result : s.result = 0x0000) (valid : s.crcValid = false)
    (pass : s.crcPass = false) (rem : s.crcRem = 0x00) : s.Inv where
  named := by omega
  delayRuns := delay
  attemptBound := by rw [attempt]; decide
  attemptFresh := fun _ => attempt
  attemptRuns := fun _ => by rw [attempt]; decide
  busyNoResult := fun _ => code
  booted := fun _ => boot
  outcome := by unfold State.resultLaw; rw [code]; exact result
  verified := fun h => by rw [valid] at h; cases h
  unverified := fun _ => ⟨pass, rem⟩
  pollFound := fun h => by rw [h] at named; exact absurd named (by decide)
  frameLatched := fun h => by rw [h] at named; exact absurd named (by decide)

/-- An accepted measurement, with the events and the answers to come. -/
def accepted (k : Kind) (events : List Event) (avail bytes : List Byte) : State :=
  { State.reset with
    seqState := 1, kind := k, schedule := events, availAnswers := avail, byteAnswers := bytes }

theorem inv_accepted (k : Kind) (events : List Event) (avail bytes : List Byte) :
    (accepted k events avail bytes).Inv :=
  inv_before_first_poll _ (by simp [accepted]) (fun h => absurd h (by simp [accepted, seqPollWait])) rfl rfl rfl rfl
    rfl rfl rfl

/-- A state in IDLE with an outcome meets the invariant. -/
theorem inv_idle (code : ResultCode) (result : Data) (attempt : BitVec 4)
    (outcome : { State.reset with resultCode := code, result := result, attempt := attempt }.resultLaw)
    (bound : attempt.toNat ≤ 10) :
    { State.reset with resultCode := code, result := result, attempt := attempt }.Inv where
  named := Nat.zero_le 6
  delayRuns := fun h => absurd (show (0 : BitVec 4) = seqPollWait from h) (by decide)
  attemptBound := bound
  attemptFresh := fun h => absurd h (by simp [State.reset, seqTrigger, seqCmdSent])
  attemptRuns := fun h => absurd h (by simp [State.reset, seqIdle])
  busyNoResult := fun h => absurd h (by simp [State.reset, seqIdle])
  booted := fun _ => rfl
  outcome := outcome
  verified := fun h => by cases h
  unverified := fun _ => ⟨rfl, rfl⟩
  pollFound := fun h => absurd (show (0 : BitVec 4) = seqDataReady from h) (by decide)
  frameLatched := fun h => absurd (show (0 : BitVec 4) = seqCrcCheck from h) (by decide)

/-- A state in DATA_READY that has verified a frame meets the invariant, and one in CRC_CHECK. -/
def frameFound : State := { sequencerAt 5 with
  attempt := 9, crcValid := true, crcPass := true, busTrace := [.requestBytes Config.devAddr readCount readCount] }

/-- After its bytes are read. -/
def frameRead : State := { frameFound with
  seqState := 6, seqRaw := rawOf 0x68 0x3A, seqChk := 0x7C
  busTrace := frameFound.busTrace ++ [.readByte 0x68, .readByte 0x3A, .readByte 0x7C] }

theorem inv_frameFound : frameFound.Inv where
  named := by decide
  delayRuns := fun h => absurd h (by decide)
  attemptBound := by decide
  attemptFresh := fun h => absurd h (by decide)
  attemptRuns := fun _ => by decide
  busyNoResult := fun _ => rfl
  booted := fun _ => rfl
  outcome := rfl
  verified := fun _ => ⟨fun _ => rfl, fun _ => rfl⟩
  unverified := fun h => by cases h
  pollFound := fun _ => rfl
  frameLatched := fun h => absurd h (by decide)

theorem inv_frameRead : frameRead.Inv where
  named := by decide
  delayRuns := fun h => absurd h (by decide)
  attemptBound := by decide
  attemptFresh := fun h => absurd h (by decide)
  attemptRuns := fun _ => by decide
  busyNoResult := fun _ => rfl
  booted := fun _ => rfl
  outcome := rfl
  verified := fun _ => ⟨fun _ => rfl, fun _ => rfl⟩
  unverified := fun h => by cases h
  pollFound := fun h => absurd h (by decide)
  frameLatched := fun _ => ⟨frameFound.busTrace, 0x68, 0x3A, 0x7C, rfl, rfl, rfl⟩

/-- A step from a state of the invariant in TRIGGER, in DATA_READY and in CRC_CHECK. -/
theorem test_witness_InvariantIsKept :
    ((accepted .humidity [.sequencer] [] []).Inv ∧ ∃ t, step (accepted .humidity [.sequencer] [] []) = .next t)
      ∧ (frameFound.Inv ∧ ∃ t, step frameFound = .next t) ∧ (frameRead.Inv ∧ ∃ t, step frameRead = .next t) :=
  ⟨⟨inv_accepted _ _ _ _, _, rfl⟩, ⟨inv_frameFound, _, rfl⟩, inv_frameRead, _, rfl⟩

theorem test_witness_InvariantStatesGoOn : frameRead.Inv ∧ (accepted .temperature [] [] []).Inv :=
  ⟨inv_frameRead, inv_accepted _ _ _ _⟩

theorem test_witness_ProgressNeedsItsAgent :
    (∃ t, step (sequencerAt 3) = .next t ∧ (sequencerAt 3).seqState ≠ 0 ∧ (sequencerAt 3).nextEvent ≠ .reset
        ∧ (sequencerAt 3).nextEvent ≠ .tick)
      ∧ ∃ t, step { polling with seqState := 6, schedule := [.tick] } = .next t
        ∧ { polling with seqState := 6, schedule := [.tick] }.nextEvent ≠ .sequencer :=
  ⟨⟨_, rfl, by decide⟩, _, rfl, by decide⟩

/-- One state of the invariant for each of the three outcomes (L2-W6, L2-W4, L2-W5). -/
theorem test_witness_ResultAloneTellsOutcome :
    (∃ s : State, s.Inv ∧ s.resultCode ≠ .none ∧ s.resultCode = .ok)
      ∧ (∃ s : State, s.Inv ∧ s.resultCode ≠ .none ∧ s.resultCode = .timeout)
      ∧ ∃ s : State, s.Inv ∧ s.resultCode ≠ .none ∧ s.resultCode = .crcFail :=
  ⟨⟨_, inv_idle .ok 0x1234 9 ⟨rfl, rfl, by decide⟩ (by decide), nofun, rfl⟩,
    ⟨_, inv_idle .timeout 998 10 ⟨rfl, rfl⟩ (by decide), nofun, rfl⟩,
    ⟨_, inv_idle .crcFail 999 0 ⟨rfl, by decide⟩ (by decide), nofun, rfl⟩⟩

theorem test_witness_ServedMeasurementEnds :
    (accepted .humidity (measurementSchedule ++ [.host]) [] []).Inv
      ∧ (accepted .humidity (measurementSchedule ++ [.host]) [] []).seqState = 1
      ∧ (accepted .humidity (measurementSchedule ++ [.host]) [] []).schedule = measurementSchedule ++ [.host] :=
  ⟨inv_accepted _ _ _ _, rfl, rfl⟩

/-- Follows a measurement for at most `n` steps, counting as `Measuring` does. -/
def follow : Nat → State → Nat × Nat × Bool × State
  | 0, s => (0, 0, false, s)
  | n + 1, s =>
    match follow n s with
    | (steps, ticks, cut, t) =>
      if t.busy = true then
        match step t with
        | .next u =>
          (steps + t.takesSeqStep.toNat, ticks + t.takesCountedTick.toNat, decide (t.nextEvent = .reset), u)
        | _ => (steps, ticks, cut, t)
      else (steps, ticks, cut, t)

theorem follow_measuring (n : Nat) (s : State) :
    Measuring s (follow n s).1 (follow n s).2.1 (follow n s).2.2.1 (follow n s).2.2.2 := by
  induction n with
  | zero => exact .start
  | succ n ih =>
    rw [follow]
    revert ih
    generalize follow n s = m
    obtain ⟨steps, ticks, cut, t⟩ := m
    intro ih
    simp only
    split_ifs with h
    · cases hs : step t with
      | next u => exact .more ih h hs
      | fault _ => exact ih
      | refused _ => exact ih
    · exact ih

/-- A measurement that ends well on its first poll (L2-W1): 5 Sequencer steps, 10 ticks. -/
def quick (chk : Byte) : State :=
  accepted .humidity ([.sequencer, .sequencer] ++ List.replicate 10 .tick ++ [.sequencer, .sequencer, .sequencer])
    [3] [0x68, 0x3A, chk]

/-- A measurement that times out (L2-W4), on the least schedule. -/
def slow : State :=
  accepted .temperature
    ([.sequencer, .sequencer] ++ (List.replicate 10 (List.replicate 10 Event.tick ++ [.sequencer])).flatten)
    (List.replicate 10 0) []

/-- A measurement that a reset cuts after its trigger. -/
def cutShort : State := accepted .humidity [.sequencer, .reset] [] []

/-- What `follow` counts is a run of `Measuring`. -/
theorem measuring_of_follow {n steps ticks : Nat} {cut : Bool} {s : State}
    (h : (follow n s).1 = steps ∧ (follow n s).2.1 = ticks ∧ (follow n s).2.2.1 = cut) :
    Measuring s steps ticks cut (follow n s).2.2.2 :=
  h.1 ▸ h.2.1 ▸ h.2.2 ▸ follow_measuring n s

/-- The runs to the three outcomes, with the counts of L2-W1, L2-W5 and L2-W4, and one that is cut. -/
theorem quick_run : MeasurementRun (quick 0x7C) 5 10 false (follow 15 (quick 0x7C)).2.2.2 :=
  ⟨rfl, measuring_of_follow (by decide +kernel), by decide +kernel⟩

theorem failing_run : MeasurementRun (quick 0x7D) 5 10 false (follow 15 (quick 0x7D)).2.2.2 :=
  ⟨rfl, measuring_of_follow (by decide +kernel), by decide +kernel⟩

theorem slow_run : MeasurementRun slow 12 100 false (follow 112 slow).2.2.2 :=
  ⟨rfl, measuring_of_follow (by decide +kernel), by decide +kernel⟩

theorem cut_run : MeasurementRun cutShort 1 0 true (follow 2 cutShort).2.2.2 :=
  ⟨rfl, measuring_of_follow (by decide +kernel), by decide +kernel⟩

/-- A run to each outcome. -/
theorem test_witness_MeasurementStepAndTickCounts :
    ((quick 0x7C).Inv ∧ (quick 0x7C).seqState = 1 ∧ ∃ t, Measuring (quick 0x7C) 5 10 false t ∧ t.resultCode = .ok)
      ∧ ((quick 0x7D).Inv ∧ ∃ t, Measuring (quick 0x7D) 5 10 false t ∧ t.resultCode = .crcFail)
      ∧ (slow.Inv ∧ ∃ t, Measuring slow 12 100 false t ∧ t.resultCode = .timeout) :=
  ⟨⟨inv_accepted _ _ _ _, rfl, _, quick_run.runs, by decide +kernel⟩,
    ⟨inv_accepted _ _ _ _, _, failing_run.runs, by decide +kernel⟩,
    inv_accepted _ _ _ _, _, slow_run.runs, by decide +kernel⟩

theorem test_witness_MeasurementTraceAndOutcome :
    ((quick 0x7C).Inv ∧ ∃ t, MeasurementRun (quick 0x7C) 5 10 false t)
      ∧ (slow.Inv ∧ ∃ t, MeasurementRun slow 12 100 false t) :=
  ⟨⟨inv_accepted _ _ _ _, _, quick_run⟩, inv_accepted _ _ _ _, _, slow_run⟩

/-- A run that ends without a flag, to each outcome and cut by a reset. -/
theorem test_witness_CleanRunOutcome :
    ((quick 0x7C).Inv ∧ ∃ t, MeasurementRun (quick 0x7C) 5 10 false t ∧ t.cmdErr = false ∧ t.adapterErr = false)
      ∧ ((quick 0x7D).Inv ∧ ∃ t, MeasurementRun (quick 0x7D) 5 10 false t ∧ t.cmdErr = false ∧ t.adapterErr = false)
      ∧ (slow.Inv ∧ ∃ t, MeasurementRun slow 12 100 false t ∧ t.cmdErr = false ∧ t.adapterErr = false)
      ∧ (cutShort.Inv ∧ ∃ t, MeasurementRun cutShort 1 0 true t ∧ t.cmdErr = false ∧ t.adapterErr = false) :=
  ⟨⟨inv_accepted _ _ _ _, _, quick_run, by decide +kernel⟩,
    ⟨inv_accepted _ _ _ _, _, failing_run, by decide +kernel⟩,
    ⟨inv_accepted _ _ _ _, _, slow_run, by decide +kernel⟩,
    inv_accepted _ _ _ _, _, cut_run, by decide +kernel⟩

/-! ### An unending fair run -/

/-- The Sequencer and the Time Source take turns. -/
def turns (n : Nat) : Event := if n % 2 = 0 then .sequencer else .tick

/-- The state an event leads to. -/
def onward (e : Event) (s : State) : State := (after (eventStep e s)).getD s

/-- The run along the turns, from an accepted measurement whose Adapter answers are all free. -/
def turning : Nat → State
  | 0 => accepted .humidity [] [] []
  | n + 1 => onward (turns n) (turning n)

/-- A turn in a named SEQ_STATE goes on, to a named one. -/
theorem turn_goes_on (n : Nat) {s : State} (h : s.seqState.toNat ≤ 6) :
    ∃ t, eventStep (turns n) s = .next t ∧ t.seqState.toNat ≤ 6 := by
  unfold turns
  split
  · obtain ⟨t, ht⟩ := sequencerStep_next h
    refine ⟨t, ht, ?_⟩
    rcases sequencerStep_cases ht with ⟨-, rfl⟩ | ⟨-, rfl⟩ | ⟨-, rfl⟩ | ⟨-, rfl⟩ | ⟨-, rfl⟩ | ⟨-, rfl⟩
    · exact h
    · simp [stepTrigger, seqCmdSent]
    · simp [stepCmdSent, seqPollWait]
    · rw [stepPollReq, pollFailed_eq]
      split_ifs <;> simp [seqDataReady, seqIdle, seqPollWait]
    · simp [stepDataReady, seqCrcCheck]
    · unfold stepCrcCheck
      split <;> simp [seqIdle]
  · refine ⟨tick s, rfl, ?_⟩
    rcases tick_cases (s := s) with ⟨-, h'⟩ | ⟨-, -, h'⟩ | ⟨-, -, h'⟩ <;> rw [h']
    · exact h
    · simp [seqPollReq]
    · simpa using h

theorem turning_named (n : Nat) : (turning n).seqState.toNat ≤ 6 := by
  induction n with
  | zero => decide
  | succ n ih =>
    obtain ⟨t, ht, h⟩ := turn_goes_on n ih
    simpa [turning, onward, ht, after] using h

theorem turning_isRun : IsRun turns turning := by
  intro n
  obtain ⟨t, ht, -⟩ := turn_goes_on n (turning_named n)
  simp [turning, onward, ht, after]

theorem turning_fair : WeaklyFair turns turning where
  sequencer := fun n => ⟨2 * n, by omega, fun _ => by simp [turns]⟩
  clock := fun n => ⟨2 * n + 1, by omega, fun _ => by simp [turns]⟩

theorem test_witness_FairMeasurementEnds :
    IsRun turns turning ∧ WeaklyFair turns turning ∧ (turning 0).Inv ∧ (turning 0).seqState ≠ 0 :=
  ⟨turning_isRun, turning_fair, inv_accepted _ _ _ _, by decide⟩

theorem test_witness_RunsFollowSchedules : IsRun turns turning := turning_isRun

end Sys2Proof.Tests
end

section
/-! PROOFS. The registers that only the Host or reset writes (10_state.md R24, R25, R36). -/

namespace Sys2Proof.Proofs

open Sys2Proof.Machine

variable {s t : State}

/-! ### The step of a known event -/

/-- The step is the step of the event that comes next (R63). -/
theorem step_of_nextEvent {e : Event} (h : s.nextEvent = e) : step s = eventStep e s.takeEvent := by
  rw [step, h]

/-- A reset step goes on, and it is the reset of the block (R210). -/
theorem step_of_reset (h : s.nextEvent = .reset) : step s = .next (resetBlock s.takeEvent) :=
  step_of_nextEvent h

/-! ### The Sequencer's and the clock's frame -/

/-- From `s` to `t` the registers that only Host transactions and reset write stay as they are, and ADAPTER_ERR is at
most set (R22 to R26). -/
structure KeepsHostWritten (s t : State) : Prop where
  kind : t.kind = s.kind
  crcData : t.crcData = s.crcData
  crcChk : t.crcChk = s.crcChk
  crcRem : t.crcRem = s.crcRem
  crcPass : t.crcPass = s.crcPass
  crcValid : t.crcValid = s.crcValid
  cmdErr : t.cmdErr = s.cmdErr
  adapterErr : s.adapterErr = true → t.adapterErr = true

theorem KeepsHostWritten.refl (s : State) : KeepsHostWritten s s :=
  ⟨rfl, rfl, rfl, rfl, rfl, rfl, rfl, id⟩

theorem KeepsHostWritten.trans {u : State} (h : KeepsHostWritten s t) (k : KeepsHostWritten t u) :
    KeepsHostWritten s u where
  kind := k.kind.trans h.kind
  crcData := k.crcData.trans h.crcData
  crcChk := k.crcChk.trans h.crcChk
  crcRem := k.crcRem.trans h.crcRem
  crcPass := k.crcPass.trans h.crcPass
  crcValid := k.crcValid.trans h.crcValid
  cmdErr := k.cmdErr.trans h.cmdErr
  adapterErr := k.adapterErr ∘ h.adapterErr

/-- Taking an event from the schedule writes no register (R63). -/
theorem takeEvent_keepsHostWritten (s : State) : KeepsHostWritten s s.takeEvent := by
  constructor <;> simp

theorem busRequest_keepsHostWritten (s : State) : KeepsHostWritten s (busRequest s) := by
  constructor <;> simp

theorem stepTrigger_keepsHostWritten (s : State) : KeepsHostWritten s (stepTrigger s) := by
  constructor <;> simp [stepTrigger, busStart, busWrite, busEnd]

theorem stepCmdSent_keepsHostWritten (s : State) : KeepsHostWritten s (stepCmdSent s) := by
  constructor <;> simp [stepCmdSent]

/-- A failed poll may set ADAPTER_ERR (R139). -/
theorem pollFailed_keepsHostWritten (n : Byte) (s : State) : KeepsHostWritten s (pollFailed n s) := by
  rw [pollFailed_eq, notedAnswer_eq]
  split <;> constructor <;> simp +contextual

theorem stepPollReq_keepsHostWritten (s : State) : KeepsHostWritten s (stepPollReq s) := by
  unfold stepPollReq
  split
  · constructor <;> simp
  · exact (busRequest_keepsHostWritten s).trans (pollFailed_keepsHostWritten _ _)

theorem stepDataReady_keepsHostWritten (s : State) : KeepsHostWritten s (stepDataReady s) := by
  constructor <;> simp [stepDataReady]

theorem stepCrcCheck_keepsHostWritten (s : State) : KeepsHostWritten s (stepCrcCheck s) := by
  unfold stepCrcCheck
  split <;> constructor <;> simp

/-- No Sequencer step writes an operand or a result of VERIFY, nor KIND or CMD_ERR (R24, R25, R141). -/
theorem sequencerStep_keepsHostWritten (h : sequencerStep s = .next t) : KeepsHostWritten s t := by
  obtain ⟨-, rfl⟩ | ⟨-, rfl⟩ | ⟨-, rfl⟩ | ⟨-, rfl⟩ | ⟨-, rfl⟩ | ⟨-, rfl⟩ := sequencerStep_cases h
  · exact .refl _
  · exact stepTrigger_keepsHostWritten s
  · exact stepCmdSent_keepsHostWritten s
  · exact stepPollReq_keepsHostWritten s
  · exact stepDataReady_keepsHostWritten s
  · exact stepCrcCheck_keepsHostWritten s

/-- No tick writes any of them (R137). -/
theorem tick_keepsHostWritten (s : State) : KeepsHostWritten s (tick s) := by
  obtain ⟨-, h⟩ | ⟨-, -, h⟩ | ⟨-, -, h⟩ := tick_cases (s := s) <;> rw [h]
  · exact .refl s
  · constructor <;> simp
  · constructor <;> simp

/-- What only the Host and reset write stays through a step of the Sequencer and through a tick (R25). -/
theorem step_keepsHostWritten (he : s.nextEvent = .sequencer ∨ s.nextEvent = .tick) (h : step s = .next t) :
    KeepsHostWritten s t := by
  refine (takeEvent_keepsHostWritten s).trans ?_
  rcases he with he | he <;> rw [step_of_nextEvent he] at h
  · exact sequencerStep_keepsHostWritten h
  · cases h
    exact tick_keepsHostWritten _

/-! ### The operands of VERIFY (R25) -/

/-- All a MEAS_* that goes on can do (R131). -/
theorem measAccept_next {k : Kind} (h : measAccept k s = .next t) : t = recordCmdErr s ∨ t = startMeasurement k s := by
  unfold measAccept at h
  split_ifs at h <;> cases h
  · exact .inl rfl
  · exact .inr rfl

/-- All a command value that goes on can do (R83). -/
theorem executeCommand_next {op : Byte} (h : executeCommand op s = .next t) :
    t = s ∨ t = verify s ∨ t = recordCmdErr s ∨ ∃ k, t = startMeasurement k s := by
  unfold executeCommand at h
  split_ifs at h
  · cases h; exact .inl rfl
  · cases h; exact .inr (.inl rfl)
  · exact .inr (.inr ((measAccept_next h).imp id fun h => ⟨_, h⟩))
  · exact .inr (.inr ((measAccept_next h).imp id fun h => ⟨_, h⟩))
  · cases h; exact .inr (.inr (.inl rfl))

/-- No command value writes an operand. -/
theorem executeCommand_operands {op : Byte} (h : executeCommand op s = .next t) :
    t.crcData = s.crcData ∧ t.crcChk = s.crcChk := by
  obtain rfl | rfl | rfl | ⟨k, rfl⟩ := executeCommand_next h <;> simp [verify]

/-- An instruction is a write of CRC_DATA, a write of CRC_CHK, or it keeps both operands. -/
theorem exec_operands {i : Instr} (h : exec i s = .next t) :
    (∃ d, i = .wr .crcData d ∧ t = writeCrcData d s) ∨ (∃ d, i = .wr .crcChk d ∧ t = writeCrcChk d s)
      ∨ (t.crcData = s.crcData ∧ t.crcChk = s.crcChk) := by
  cases i with
  | wr reg data =>
    cases reg with
    | cmd => exact .inr (.inr (executeCommand_operands h))
    | crcData => cases h; exact .inl ⟨data, rfl, rfl⟩
    | crcChk => cases h; exact .inr (.inl ⟨data, rfl, rfl⟩)
    | _ => cases h; exact .inr (.inr ⟨rfl, rfl⟩)
  | measRh => obtain rfl | rfl := measAccept_next h <;> simp
  | measT => obtain rfl | rfl := measAccept_next h <;> simp
  | _ => cases h; exact .inr (.inr ⟨rfl, rfl⟩)

/-- A read hands the Host the register's value and does nothing else (R51). -/
theorem exec_rd (reg : Reg) (s : State) : exec (.rd reg) s = .next (deliverRead (regRead reg s) s) := rfl

/-- CRC_CHK is read with zeros above it (R51). -/
theorem regRead_crcChk (s : State) : regRead .crcChk s = 0x00#8 ++ s.crcChk := by
  simp [regRead, BitVec.setWidth_eq_append (show 8 ≤ 16 by decide)]

/-- A byte written to CRC_CHK is read back (R25). -/
theorem regRead_writeCrcChk (b : Byte) (s : State) :
    regRead .crcChk (writeCrcChk (0x00#8 ++ b) s) = 0x00#8 ++ b := by
  rw [regRead_crcChk, writeCrcChk_crcChk, BitVec.setWidth_append_eq_right]

/-- Settles O10: each operand register holds the Host's last write of it, for a read and for VERIFY. -/
theorem operandsArePlainStorage : Obligations.OperandsArePlainStorage := by
  unfold Obligations.OperandsArePlainStorage
  refine ⟨fun s data chk => ⟨⟨writeCrcData data s, rfl, rfl⟩, writeCrcChk (0x00#8 ++ chk) s, rfl, ?_⟩, ?_, ?_, ?_⟩
  · rw [exec_rd, regRead_writeCrcChk]
    rfl
  · intro i s t h
    obtain ⟨d, rfl, rfl⟩ | ⟨d, rfl, rfl⟩ | ⟨hData, hChk⟩ := exec_operands h
    · exact ⟨fun hi => absurd rfl (hi d), fun _ => writeCrcData_crcChk s d⟩
    · exact ⟨fun _ => writeCrcChk_crcData s d, fun hi => absurd rfl (hi d)⟩
    · exact ⟨fun _ => hData, fun _ => hChk⟩
  · intro s t he h
    have hl := step_keepsHostWritten he h
    exact ⟨hl.crcData, hl.crcChk⟩
  · exact fun s => ⟨verify s, rfl, rfl, rfl⟩

/-! ### The sticky flags (R24) -/

/-- A flag that is set in `s` is still set in `t`, for both sticky flags. -/
def KeepsStickyFlags (s t : State) : Prop :=
  (s.cmdErr = true → t.cmdErr = true) ∧ (s.adapterErr = true → t.adapterErr = true)

theorem KeepsHostWritten.keepsStickyFlags (h : KeepsHostWritten s t) : KeepsStickyFlags s t :=
  ⟨h.cmdErr.trans, h.adapterErr⟩

/-- An instruction writes neither flag, but for setting CMD_ERR (R183). -/
theorem effect_keepsStickyFlags (h : Effect s t) : KeepsStickyFlags s t := by
  obtain rfl | ⟨v, rfl⟩ | ⟨d, rfl⟩ | ⟨d, rfl⟩ | rfl | rfl | ⟨k, -, -, rfl⟩ := h <;> simp [KeepsStickyFlags, verify]

theorem hostStep_keepsStickyFlags (h : hostStep s = .next t) : KeepsStickyFlags s t := by
  obtain ⟨u, hu, pc, n, rfl⟩ := hostStep_effect h
  have hFlags := effect_keepsStickyFlags hu
  exact hFlags

/-- Every step but a reset keeps both flags, by the agent that moves. -/
theorem step_keepsStickyFlags (h : step s = .next t) (hr : s.nextEvent ≠ .reset) : KeepsStickyFlags s t := by
  obtain ⟨-, hHost⟩ | ⟨he, -⟩ | ⟨he, -⟩ | ⟨he, -⟩ | ⟨r, -, rfl⟩ := step_cases h
  · simpa [KeepsStickyFlags] using hostStep_keepsStickyFlags hHost
  · exact (step_keepsHostWritten (.inl he) h).keepsStickyFlags
  · exact (step_keepsHostWritten (.inr he) h).keepsStickyFlags
  · exact absurd he hr
  · exact (takeEvent_keepsHostWritten s).keepsStickyFlags

/-- Settles O35: every agent's step keeps a set flag, and the reset of the block clears both. -/
theorem onlyResetClearsStickyFlags : Obligations.OnlyResetClearsStickyFlags := by
  unfold Obligations.OnlyResetClearsStickyFlags
  refine ⟨fun s t h hr => step_keepsStickyFlags h hr, fun s hr => ?_, fun s => ?_⟩
  · exact ⟨_, step_of_reset hr, rfl, rfl⟩
  · simp [State.faulted]

/-! ### Power-on (R36) -/

/-- Settles O34: State.reset writes these values out. -/
theorem powerOnValues : Obligations.PowerOnValues := by
  unfold Obligations.PowerOnValues
  decide

end Sys2Proof.Proofs
end

section
/-! PROOFS. What host transactions do (20_memory.md R51, R52) and what a step puts on the bus (R55, R58). -/

namespace Sys2Proof.Proofs

open Sys2Proof.Machine

variable {s t : State}

/-! ### STATUS, field by field (R22, R23) -/

@[simp] theorem getElem_kindBit (k : Kind) : (kindBit k)[0] = (k == .temperature) := by cases k <;> rfl

/-- The single-bit fields of STATUS are at their places in the word a read delivers. -/
theorem statusWord_getLsbD (s : State) :
    (0x00#8 ++ s.status).getLsbD 0 = s.busy ∧ (0x00#8 ++ s.status).getLsbD 1 = (s.kind == .temperature)
      ∧ (0x00#8 ++ s.status).getLsbD 4 = s.crcPass ∧ (0x00#8 ++ s.status).getLsbD 5 = s.cmdErr
      ∧ (0x00#8 ++ s.status).getLsbD 6 = s.adapterErr ∧ (0x00#8 ++ s.status).getLsbD 7 = s.crcValid := by
  simp only [State.status, BitVec.getLsbD_append]
  simp

/-- RESULT_CODE is in bits 3 and 2 of that word: BUSY and KIND stand below it. -/
theorem statusWord_resultCode (s : State) : (0x00#8 ++ s.status).extractLsb' 2 2 = resultCodeBits s.resultCode := by
  rw [BitVec.extractLsb'_append_eq_of_add_le (by decide), State.status,
    BitVec.extractLsb'_append_eq_of_le (by decide), BitVec.extractLsb'_append_eq_of_le (by decide),
    BitVec.extractLsb'_append_eq_right]

/-! ### Reads (R51) -/

/-- A read of a register delivers the value that the register holds. -/
theorem exec_rd_of_regRead {reg : Reg} {v : Data} (h : regRead reg s = v) :
    exec (.rd reg) s = .next { s with hostLast := some v } := by
  rw [exec_rd, h]
  rfl

/-- STATUS is read with zeros above it. -/
theorem regRead_status (s : State) : regRead .status s = 0x00#8 ++ s.status :=
  BitVec.setWidth_eq_append (by decide)

/-- Settles O5: each register's value is `regRead`'s, zero-extended; STATUS field by field. -/
theorem readDeliversRegister : Obligations.ReadDeliversRegister := by
  unfold Obligations.ReadDeliversRegister
  intro s
  obtain ⟨hBusy, hKind, hPass, hCmdErr, hAdapterErr, hValid⟩ := statusWord_getLsbD s
  refine ⟨rfl, ⟨_, exec_rd_of_regRead (regRead_status s), hBusy, hKind, ?code, hPass, hCmdErr, hAdapterErr, hValid,
    BitVec.extractLsb'_append_eq_left⟩, rfl, exec_rd_of_regRead (regRead_crcChk s), ?crcRem, rfl, ?attempts, ?seq⟩
  case code =>
    rw [statusWord_resultCode]
    rfl
  all_goals exact exec_rd_of_regRead (BitVec.setWidth_eq_append (by decide))

/-! ### Writes (R52) -/

/-- A write of CMD executes the command of DATA[7:0], whatever DATA[15:8] is. -/
theorem exec_wr_cmd (high op : Byte) (s : State) : exec (.wr .cmd (high ++ op)) s = executeCommand op s := by
  change executeCommand (opOf (high ++ op)) s = _
  rw [opOf, BitVec.setWidth_append_eq_right]

/-- A reserved command value sets CMD_ERR and does nothing else (R108). -/
theorem executeCommand_reserved {op : Byte} (h : 4 ≤ op.toNat) : executeCommand op s = .next (recordCmdErr s) := by
  have hne : ∀ k : Byte, k.toNat < 4 → op ≠ k := by
    rintro k hk rfl
    omega
  rw [executeCommand, if_neg (hne _ (by decide)), if_neg (hne _ (by decide)), if_neg (hne _ (by decide)),
    if_neg (hne _ (by decide))]

/-- A write of CRC_CHK stores DATA[7:0]. -/
theorem exec_wr_crcChk (data : Data) (s : State) :
    exec (.wr .crcChk data) s = .next { s with crcChk := data.extractLsb' 0 8 } := by
  rw [← BitVec.setWidth_eq_extractLsb' (by decide)]
  rfl

/-- A write of a read-only register is accepted and has no effect. -/
theorem exec_wr_readOnly (data : Data) (s : State) :
    ∀ reg ∈ [Reg.status, .crcRem, .result, .attempts, .seq], exec (.wr reg data) s = .next s := by
  simp only [List.forall_mem_cons]
  exact ⟨rfl, rfl, rfl, rfl, rfl, nofun⟩

/-- Settles O6: a CMD write by its command value, every other write by its register. -/
theorem writeStoresOrExecutes : Obligations.WriteStoresOrExecutes := by
  unfold Obligations.WriteStoresOrExecutes
  intro s data high op
  rw [exec_wr_cmd]
  refine ⟨rfl, exec_wr_crcChk data s, exec_wr_readOnly data s, ?_, ?_, ?_, ?_, executeCommand_reserved⟩
  all_goals
    rintro rfl
    rfl

/-! ### What a step puts on the bus (R55, R135, R138, R140) -/

theorem stepTrigger_busTrace (s : State) : (stepTrigger s).busTrace = s.busTrace ++ triggerTrace s.kind := by
  simp [stepTrigger, busStart, busWrite, busEnd, triggerTrace]

theorem stepCmdSent_busTrace (s : State) : (stepCmdSent s).busTrace = s.busTrace := by
  simp [stepCmdSent]

theorem pollFailed_busTrace (n : Byte) (s : State) : (pollFailed n s).busTrace = s.busTrace := by
  rw [pollFailed_eq, notedAnswer_eq]
  split <;> simp

/-- A poll is on the bus whether it finds three bytes or fails (R138). -/
theorem stepPollReq_busTrace (s : State) :
    (stepPollReq s).busTrace = s.busTrace ++ pollTrace [s.nextAvailable] := by
  unfold stepPollReq
  split <;> simp [pollFailed_busTrace, pollTrace]

theorem stepDataReady_busTrace (s : State) : (stepDataReady s).busTrace = s.busTrace
    ++ [.readByte s.nextByte, .readByte (busRead s).nextByte, .readByte (busRead (busRead s)).nextByte] := by
  simp [stepDataReady]

theorem stepCrcCheck_busTrace (s : State) : (stepCrcCheck s).busTrace = s.busTrace := by
  unfold stepCrcCheck
  split <;> simp

/-- What a Sequencer step for a measurement kind can put on the bus, by its SEQ_STATE (R135, R138, R140). -/
inductive BusOutput (k : Kind) : BitVec 4 → List BusEvent → Prop where
  | trigger : BusOutput k seqTrigger (triggerTrace k)
  | poll (n : Byte) : BusOutput k seqPollReq (pollTrace [n])
  | frame (msb lsb chk : Byte) : BusOutput k seqDataReady [.readByte msb, .readByte lsb, .readByte chk]

/-- All a Sequencer step can do to the trace. -/
theorem sequencerStep_busTrace (h : sequencerStep s = .next t) :
    t.busTrace = s.busTrace ∨ ∃ out, BusOutput s.kind s.seqState out ∧ t.busTrace = s.busTrace ++ out := by
  obtain ⟨-, rfl⟩ | ⟨hs, rfl⟩ | ⟨-, rfl⟩ | ⟨hs, rfl⟩ | ⟨hs, rfl⟩ | ⟨-, rfl⟩ := sequencerStep_cases h
  · exact .inl rfl
  · exact .inr ⟨_, hs ▸ .trigger, stepTrigger_busTrace s⟩
  · exact .inl (stepCmdSent_busTrace s)
  · exact .inr ⟨_, hs ▸ .poll _, stepPollReq_busTrace s⟩
  · exact .inr ⟨_, hs ▸ .frame _ _ _, stepDataReady_busTrace s⟩
  · exact .inl (stepCrcCheck_busTrace s)

/-- No instruction touches the bus. -/
theorem effect_busTrace (h : Effect s t) : t.busTrace = s.busTrace := by
  obtain rfl | ⟨v, rfl⟩ | ⟨d, rfl⟩ | ⟨d, rfl⟩ | rfl | rfl | ⟨k, -, -, rfl⟩ := h <;> rfl

theorem hostStep_busTrace (h : hostStep s = .next t) : t.busTrace = s.busTrace := by
  obtain ⟨u, hu, pc, n, rfl⟩ := hostStep_effect h
  have hTrace := effect_busTrace hu
  exact hTrace

theorem tick_busTrace (s : State) : (tick s).busTrace = s.busTrace := by
  obtain ⟨-, h⟩ | ⟨-, -, h⟩ | ⟨-, -, h⟩ := tick_cases (s := s) <;> rw [h] <;> rfl

theorem resetBlock_busTrace (s : State) : (resetBlock s).busTrace = s.busTrace := by
  unfold resetBlock busAfterReset
  split <;> rfl

/-- All a step can do to the trace: only the Sequencer adds to it. -/
theorem step_busTrace (h : step s = .next t) :
    t.busTrace = s.busTrace
      ∨ ∃ out, s.nextEvent = .sequencer ∧ BusOutput s.kind s.seqState out ∧ t.busTrace = s.busTrace ++ out := by
  obtain ⟨-, hHost⟩ | ⟨he, hSeq⟩ | ⟨-, rfl⟩ | ⟨-, rfl⟩ | ⟨r, -, rfl⟩ := step_cases h
  · exact .inl ((hostStep_busTrace hHost).trans s.takeEvent_busTrace)
  · simpa [he] using sequencerStep_busTrace hSeq
  · exact .inl ((tick_busTrace _).trans s.takeEvent_busTrace)
  · exact .inl ((resetBlock_busTrace _).trans s.takeEvent_busTrace)
  · exact .inl s.takeEvent_busTrace

/-! ### The address on the bus (R58) -/

/-- The primitive carries DEV_ADDR where it carries an address, and asks for 3 bytes where it asks for bytes. -/
def ToDevice : BusEvent → Prop
  | .startTransaction a => a = Config.devAddr
  | .requestBytes a c _ => a = Config.devAddr ∧ c = 3
  | _ => True

theorem forall_toDevice_iff (trace : List BusEvent) : (∀ e ∈ trace, ToDevice e) ↔
    (∀ a, .startTransaction a ∈ trace → a = Config.devAddr)
      ∧ ∀ a c n, .requestBytes a c n ∈ trace → a = Config.devAddr ∧ c = 3 := by
  refine ⟨fun h => ⟨fun a ha => h _ ha, fun a c n hr => h _ hr⟩, fun ⟨hStart, hRequest⟩ e he => ?_⟩
  cases e with
  | startTransaction a => exact hStart a he
  | requestBytes a c n => exact hRequest a c n he
  | _ => trivial

/-- Whatever the Sequencer puts on the bus is addressed to the device. -/
theorem BusOutput.toDevice {k : Kind} {st : BitVec 4} {out : List BusEvent} (h : BusOutput k st out) : ∀ e ∈ out, ToDevice e := by
  cases h <;> simp [triggerTrace, pollTrace, ToDevice, readCount]

theorem step_toDevice (h : step s = .next t) (hs : ∀ e ∈ s.busTrace, ToDevice e) : ∀ e ∈ t.busTrace, ToDevice e := by
  obtain ht | ⟨out, -, hOut, ht⟩ := step_busTrace h <;> rw [ht]
  · exact hs
  · exact List.forall_mem_append.mpr ⟨hs, hOut.toDevice⟩

/-- Settles O39: whatever a step adds to the trace is addressed to the device. -/
theorem busAddressIsDeviceAddress : Obligations.BusAddressIsDeviceAddress := by
  unfold Obligations.BusAddressIsDeviceAddress
  intro s t h hStart hRequest
  exact (forall_toDevice_iff _).mp (step_toDevice h ((forall_toDevice_iff _).mpr ⟨hStart, hRequest⟩))

end Sys2Proof.Proofs
end

section
/-! PROOFS. The decoder by the fields of the word (30_encoding.md R81, R83, R84, R91) and the listed words (R94). -/

namespace Sys2Proof.Proofs

/-! ### The decoder by WE and IDX (R91) -/

/-- WE = 0 is a read of the register that IDX names; DATA is ignored. -/
theorem decode_read (idx : BitVec 3) (data : Data) : decode (0#1 ++ idx ++ data) = .rd (Reg.ofIndex idx) :=
  decode_htwOf false idx data

/-- WE = 1 is a write of the register that IDX names. -/
theorem decode_write (idx : BitVec 3) (data : Data) :
    decode (1#1 ++ idx ++ data) = decodeWrite (Reg.ofIndex idx) data :=
  decode_htwOf true idx data

/-- The place of a register in the map of R21 is its index. -/
theorem getElem?_registerMap (idx : BitVec 3) :
    [Reg.cmd, .status, .crcData, .crcChk, .crcRem, .result, .attempts, .seq][idx.toNat]? = some (Reg.ofIndex idx) := by
  revert idx
  decide

/-- CMD has index 0 and no other. -/
theorem ofIndex_ne_cmd {idx : BitVec 3} (h : idx ≠ 0) : Reg.ofIndex idx ≠ .cmd := by
  intro hCmd
  have hIdx := Reg.index_ofIndex idx
  rw [hCmd] at hIdx
  exact h hIdx.symm

/-! ### Writes (R83, R84) -/

/-- A write of any register but CMD is that write, whatever the data. -/
theorem decodeWrite_of_ne_cmd {reg : Reg} (h : reg ≠ .cmd) (data : Data) : decodeWrite reg data = .wr reg data := by
  cases reg with
  | cmd => contradiction
  | _ => rfl

/-- A write of CMD is the command of DATA[7:0] where that value has one. -/
theorem decodeWrite_command {data : Data} {op : Byte} {i : Instr} (hop : data.extractLsb' 0 8 = op)
    (hi : decodeCmd8 op = some i) : decodeWrite .cmd data = i := by
  rw [decodeWrite, BitVec.setWidth_eq_extractLsb' (by decide), hop, hi]
  rfl

/-- Settles O3: the fields give the register and the direction; a write of CMD goes by its command value. -/
theorem decodeFollowsFields : Obligations.DecodeFollowsFields := by
  unfold Obligations.DecodeFollowsFields
  intro idx data reg hreg
  obtain rfl : Reg.ofIndex idx = reg := Option.some.inj ((getElem?_registerMap idx).symm.trans hreg)
  rw [decode_read, decode_write]
  refine ⟨rfl, fun hne => decodeWrite_of_ne_cmd (ofIndex_ne_cmd hne) data, ?nop, ?verify, ?measRh, ?measT, ?reserved⟩
  case reserved =>
    rintro rfl hop
    rw [← BitVec.setWidth_eq_extractLsb' (by decide)] at hop
    exact decodeWrite_reserved hop
  all_goals
    rintro rfl hop
    exact decodeWrite_command hop rfl

/-! ### The words of the common transactions (R94) -/

/-- The fields of `0xB00hh`: WE = 1, the index of CRC_CHK, and `hh` with zeros above it as DATA. -/
theorem crcChkWord_fields (h : Byte) : 0xB00#12 ++ h = 1#1 ++ 3#3 ++ h.setWidth 16 := by
  rw [BitVec.setWidth_eq_append (by decide)]
  exact BitVec.append_assoc (x₁ := 0xB#4) (x₂ := 0x00#8) (x₃ := h)

/-- Settles O4: each word by its IDX and DATA, the first four as writes of CMD. -/
theorem listedWordsDecode : Obligations.ListedWordsDecode := by
  unfold Obligations.ListedWordsDecode
  refine ⟨decode_write 0 0x0000, decode_write 0 0x0001, decode_write 0 0x0002, decode_write 0 0x0003, decode_read 1 0,
    decode_write 2, ?crcChk, decode_read 4 0, decode_read 5 0, decode_read 6 0, decode_read 7 0⟩
  case crcChk =>
    intro h
    rw [crcChkWord_fields]
    exact decode_write 3 (h.setWidth 16)

end Sys2Proof.Proofs
end

section
/-! PROOFS. The single bits of a word: its weight, and a map that respects XOR is fixed by its values on them. -/

namespace Sys2Proof.Proofs

variable {v w : Nat}

/-! ### Weight -/

/-- The number of set bits of a word, counted as R107's statement counts them. -/
def weight (x : BitVec w) : Nat := (List.range w).countP x.getLsbD

theorem weight_eq_zero_iff {x : BitVec w} : weight x = 0 ↔ x = 0#w := by
  simp [weight, List.countP_eq_zero, BitVec.eq_of_getLsbD_eq_iff]

/-- A single bit has weight one. -/
theorem weight_twoPow {i : Nat} (hi : i < w) : weight (BitVec.twoPow w i) = 1 := by
  have hBits : (BitVec.twoPow w i).getLsbD = fun j => j == i := by
    funext j
    simp [BitVec.getLsbD_twoPow, hi, Bool.beq_eq_decide_eq, eq_comm]
  rw [weight, hBits]
  exact List.count_eq_one_of_mem List.nodup_range (List.mem_range.mpr hi)

/-- A bit set in both words is counted twice on the right and cancels in the XOR. -/
theorem weight_xor (x y : BitVec w) : weight (x ^^^ y) + 2 * weight (x &&& y) = weight x + weight y := by
  unfold weight
  induction List.range w with
  | nil => rfl
  | cons i l ih =>
    simp only [List.countP_cons, BitVec.getLsbD_xor, BitVec.getLsbD_and]
    cases x.getLsbD i <;> cases y.getLsbD i <;> simp <;> omega

/-- XOR with a word of even weight keeps the parity of the weight. -/
theorem weight_xor_even (x : BitVec w) {y : BitVec w} (hy : weight y % 2 = 0) :
    weight (x ^^^ y) % 2 = weight x % 2 := by
  have h := weight_xor x y
  omega

/-- A word of positive weight is a word of weight one less with one more bit inverted. -/
theorem exists_flip_of_weight {x : BitVec w} {n : Nat} (h : weight x = n + 1) :
    ∃ i < w, ∃ y, x = y ^^^ BitVec.twoPow w i ∧ weight y = n := by
  obtain ⟨i, hi, hx⟩ := List.countP_pos_iff.mp (h ▸ n.succ_pos : 0 < weight x)
  rw [List.mem_range] at hi
  refine ⟨i, hi, x ^^^ BitVec.twoPow w i, by simp, ?_⟩
  have hXor := weight_xor x (BitVec.twoPow w i)
  rw [BitVec.and_twoPow, if_pos hx, weight_twoPow hi] at hXor
  omega

/-- Every word is reached from zero by inverting single bits. -/
theorem flip_induction {P : BitVec w → Prop} (zero : P 0#w)
    (flip : ∀ x, ∀ i < w, P x → P (x ^^^ BitVec.twoPow w i)) (x : BitVec w) : P x := by
  induction h : weight x generalizing x with
  | zero => exact weight_eq_zero_iff.mp h ▸ zero
  | succ n ih =>
    obtain ⟨i, hi, y, rfl, hy⟩ := exists_flip_of_weight h
    exact flip y i hi (ih y hy)

/-! ### Maps that respect XOR -/

/-- One step of a division over GF(2), XOR with the divisor where the tested bit is set, is linear. -/
theorem conditional_xor (p q : Bool) (x y d : BitVec w) :
    (if (p ^^ q) = true then x ^^^ y ^^^ d else x ^^^ y)
      = (if p = true then x ^^^ d else x) ^^^ (if q = true then y ^^^ d else y) := by
  have hBoth : x ^^^ d ^^^ (y ^^^ d) = x ^^^ y ^^^ (d ^^^ d) := by ac_rfl
  cases p <;> cases q
  · rfl
  · exact BitVec.xor_assoc x y d
  · change x ^^^ y ^^^ d = x ^^^ d ^^^ y
    ac_rfl
  · change x ^^^ y = x ^^^ d ^^^ (y ^^^ d)
    rw [hBoth, BitVec.xor_self, BitVec.xor_zero]

/-- The map is linear over GF(2). -/
def RespectsXor (f : BitVec v → BitVec w) : Prop := ∀ x y, f (x ^^^ y) = f x ^^^ f y

theorem RespectsXor.map_zero {f : BitVec v → BitVec w} (hf : RespectsXor f) : f 0#v = 0#w := by
  have h := hf 0#v 0#v
  rwa [BitVec.xor_self, BitVec.xor_self] at h

theorem RespectsXor.iterate {f : BitVec w → BitVec w} (hf : RespectsXor f) (n : Nat) : RespectsXor f^[n] :=
  Function.Semiconj₂.iterate (op := HXor.hXor) hf n

/-- Two such maps are equal when they agree on single bits. -/
theorem RespectsXor.ext {f g : BitVec v → BitVec w} (hf : RespectsXor f) (hg : RespectsXor g)
    (h : ∀ i < v, f (BitVec.twoPow v i) = g (BitVec.twoPow v i)) (x : BitVec v) : f x = g x := by
  induction x using flip_induction with
  | zero => rw [hf.map_zero, hg.map_zero]
  | flip x i hi ih => rw [hf, hg, ih, h i hi]

end Sys2Proof.Proofs
end

section
/-! PROOFS. The verifier as polynomial division over GF(2), and the commands NOP and VERIFY (40_crc_verifier.md). -/

namespace Sys2Proof.Proofs

open Sys2Proof.Machine

/-- A 24-bit word is made of its upper 16 and its lower 8 bits. -/
theorem bytes_append (x : BitVec 24) : x.extractLsb' 8 16 ++ x.extractLsb' 0 8 = x :=
  BitVec.extractLsb'_append_extractLsb'

/-! ### The division loop (R101, R102) -/

/-- At step i the divisor's highest bit is bit 23 − i. -/
theorem gen_shiftRight_top {i : Nat} (hi : i ≤ 23) : (gen >>> i).getLsbD (23 - i) = true := by
  rw [BitVec.getLsbD_ushiftRight, Nat.add_sub_cancel' hi]
  decide

theorem gen_shiftRight_above {i j : Nat} (hj : 23 - i < j) : (gen >>> i).getLsbD j = false := by
  rw [BitVec.getLsbD_ushiftRight]
  exact BitVec.getLsbD_of_ge gen (i + j) (by omega)

/-- Each step clears its bit and changes none above it, so after i steps the top i bits are zero (R102). -/
theorem crcDivide_topBits_clear (raw : Data) (chk : Byte) {i j : Nat} (hi : i ≤ 16) (hj : 24 - i ≤ j) :
    (crcDivide raw chk i).1.getLsbD j = false := by
  induction i generalizing j with
  | zero => exact BitVec.getLsbD_of_ge _ _ hj
  | succ i ih =>
    rw [crcDivide_remainder]
    obtain rfl | hj : j = 23 - i ∨ 23 - i < j := by omega
    · split <;> simp_all [gen_shiftRight_top (show i ≤ 23 by omega)]
    · split <;> simp [gen_shiftRight_above hj, ih (show i ≤ 16 by omega) (show 24 - i ≤ j by omega)]

theorem crcRemainder_high (raw : Data) (chk : Byte) : (crcRemainder raw chk).extractLsb' 8 16 = 0#16 := by
  refine BitVec.eq_of_getLsbD_eq fun j hj => ?_
  simp [crcRemainder, crcDivide_topBits_clear raw chk (i := 16) (j := 8 + j) (by omega) (by omega)]

/-- So the remainder is its low byte. -/
theorem crcRemainder_eq (raw : Data) (chk : Byte) : crcRemainder raw chk = 0x0000#16 ++ crc8vRem raw chk := by
  rw [crc8vRem, BitVec.setWidth_eq_extractLsb' (by decide), ← crcRemainder_high raw chk, bytes_append]

/-- The verifier passes where the low byte of the remainder is zero (R102). -/
theorem crc8vPass_iff (raw : Data) (chk : Byte) : crc8vPass raw chk = true ↔ crc8vRem raw chk = 0#8 := by
  rw [crc8vPass, beq_iff_eq]
  refine ⟨fun h => ?_, fun h => ?_⟩
  · rw [crc8vRem, h]
    rfl
  · rw [crcRemainder_eq, h]
    rfl

/-- Settles O14: each step of the loop clears one more bit from the top. -/
theorem remainderFitsInEightBits : Obligations.RemainderFitsInEightBits := by
  unfold Obligations.RemainderFitsInEightBits
  exact fun raw chk => ⟨crcRemainder_high raw chk, crc8vPass_iff raw chk⟩

/-! ### The division is linear over GF(2) (R103) -/

/-- The XOR of two dividends is divided as the two are, bit by bit. -/
theorem crcDivide_xor (raw raw' : Data) (chk chk' : Byte) (i : Nat) :
    (crcDivide (raw ^^^ raw') (chk ^^^ chk') i).1 = (crcDivide raw chk i).1 ^^^ (crcDivide raw' chk' i).1 := by
  induction i with
  | zero => exact BitVec.xor_append.symm
  | succ i ih => simp only [crcDivide_remainder, ih, BitVec.getLsbD_xor, conditional_xor]

theorem crc8vRem_xor (raw raw' : Data) (chk chk' : Byte) :
    crc8vRem (raw ^^^ raw') (chk ^^^ chk') = crc8vRem raw chk ^^^ crc8vRem raw' chk' := by
  simp only [crc8vRem, crcRemainder, crcDivide_xor, BitVec.setWidth_xor]

/-- No step of the loop tests a bit of the checksum. -/
theorem crcDivide_zero_raw (chk : Byte) {i : Nat} (hi : i ≤ 16) : (crcDivide 0#16 chk i).1 = 0x0000#16 ++ chk := by
  induction i with
  | zero => rfl
  | succ i ih =>
    have hBit : (0x0000#16 ++ chk).getLsbD (23 - i) = false := by
      rw [BitVec.getLsbD_append, if_neg (by omega)]
      exact BitVec.getLsbD_zero
    rw [crcDivide_remainder, ih (by omega), hBit]
    rfl

/-- The remainder with a checksum is the check value of the data XOR the checksum (R103). -/
theorem crc8vRem_eq (raw : Data) (chk : Byte) : crc8vRem raw chk = crcOf raw ^^^ chk := by
  have hChk : crc8vRem 0#16 chk = chk := by
    rw [crc8vRem, crcRemainder, crcDivide_zero_raw chk le_rfl]
    exact BitVec.setWidth_append_eq_right
  have hXor := crc8vRem_xor raw 0#16 0#8 chk
  rwa [hChk, BitVec.xor_zero, BitVec.zero_xor] at hXor

/-- The verifier passes for the check value and for no other checksum (R103). -/
theorem crc8vPass_iff_crcOf (raw : Data) (chk : Byte) : crc8vPass raw chk = true ↔ chk = crcOf raw := by
  rw [crc8vPass_iff, crc8vRem_eq, BitVec.xor_eq_zero_iff, eq_comm]

/-! ### The quotient (R103) -/

/-- The divisor of step 15 − k is x⁸+x⁵+x⁴+1 times xᵏ. -/
theorem gen_shiftRight_eq {k : Nat} (hk : k < 16) : gen >>> (15 - k) = 0x000131#24 <<< k := by
  revert k
  decide

/-- The quotient of the division: bit k is the bit that step 15 − k tests. -/
def crcQuotient (raw : Data) : BitVec 16 := BitVec.ofFnLE fun k => (crcDivide raw 0x00 (15 - k)).1.getLsbD (8 + k)

/-- One step backwards: the remainder before step 15 − k from the one after it. -/
theorem crcDivide_step_back (raw : Data) {k : Nat} (hk : k < 16) : (crcDivide raw 0x00 (15 - k)).1 =
    if (crcQuotient raw).getLsbD k then (crcDivide raw 0x00 (16 - k)).1 ^^^ (0x000131#24 <<< k)
    else (crcDivide raw 0x00 (16 - k)).1 := by
  have hStep := crcDivide_remainder raw 0x00 (15 - k)
  rw [show 15 - k + 1 = 16 - k by omega, show 23 - (15 - k) = 8 + k by omega, gen_shiftRight_eq hk] at hStep
  rw [crcQuotient, BitVec.getLsbD_ofFnLE, dif_pos hk, hStep]
  split <;> simp

/-- Adding up the multiples of the divisor from the last step to the first runs the division backwards. -/
theorem foldl_quotient (raw : Data) {n : Nat} (hn : n ≤ 16) : (List.range n).foldl
    (fun acc k => if (crcQuotient raw).getLsbD k then acc ^^^ (0x000131#24 <<< k) else acc)
    (crcRemainder raw 0x00) = (crcDivide raw 0x00 (16 - n)).1 := by
  induction n with
  | zero => rfl
  | succ n ih =>
    rw [List.range_succ, List.foldl_append, ih (by omega), show 16 - (n + 1) = 15 - n by omega,
      crcDivide_step_back raw hn]
    rfl

/-- Settles O13: the loop is linear and leaves the checksum alone; run backwards it is the sum of the multiples. -/
theorem verifierIsPolynomialDivision : Obligations.VerifierIsPolynomialDivision := by
  unfold Obligations.VerifierIsPolynomialDivision
  intro raw
  refine ⟨fun chk => ⟨crc8vRem_eq raw chk, crc8vPass_iff_crcOf raw chk⟩, ⟨crcOf raw, ?pass, ?unique⟩,
    crcQuotient raw, ?division⟩
  case pass => exact (crc8vPass_iff_crcOf raw _).mpr rfl
  case unique => exact fun chk => (crc8vPass_iff_crcOf raw chk).mp
  case division =>
    rw [crcOf, ← crcRemainder_eq, foldl_quotient raw le_rfl]
    rfl

/-! ### The byte-serial form (R104) -/

theorem crcOf_respectsXor : RespectsXor crcOf := fun raw raw' => crc8vRem_xor raw raw' 0x00 0x00

theorem crcSerialBit_respectsXor : RespectsXor crcSerialBit := by
  intro c d
  simp only [crcSerialBit, BitVec.getLsbD_xor, BitVec.shiftLeft_xor_distrib, conditional_xor]

theorem crcSerialByte_xor (c c' b b' : Byte) :
    crcSerialByte (c ^^^ c') (b ^^^ b') = crcSerialByte c b ^^^ crcSerialByte c' b' := by
  have hInput : c ^^^ c' ^^^ (b ^^^ b') = (c ^^^ b) ^^^ (c' ^^^ b') := by ac_rfl
  rw [crcSerialByte, hInput, crcSerialBit_respectsXor.iterate 8]
  rfl

theorem crcSerial_respectsXor : RespectsXor crcSerial := by
  intro raw raw'
  have hFirst : crcSerialByte 0x00 (raw.extractLsb' 8 8 ^^^ raw'.extractLsb' 8 8) = _ :=
    crcSerialByte_xor 0x00 0x00 _ _
  simp only [crcSerial, List.foldl_cons, List.foldl_nil, BitVec.extractLsb'_xor, hFirst, crcSerialByte_xor]

/-- Settles O12: both forms are linear, so the 16 single-bit words decide. -/
theorem byteSerialFormAgrees : Obligations.ByteSerialFormAgrees := by
  unfold Obligations.ByteSerialFormAgrees
  exact crcSerial_respectsXor.ext crcOf_respectsXor (by decide +kernel)

/-! ### Errors in a frame (R107) -/

/-- The verifier's remainder of a 24-bit frame. -/
def frameRem (frame : BitVec 24) : Byte := crc8vRem (frame.extractLsb' 8 16) (frame.extractLsb' 0 8)

theorem frameRem_respectsXor : RespectsXor frameRem := by
  intro x y
  simp only [frameRem, BitVec.extractLsb'_xor, crc8vRem_xor]

/-- An error in a passing frame is detected where its own remainder is not zero. -/
theorem crc8vPass_of_error {frame error : BitVec 24}
    (hPass : crc8vPass (frame.extractLsb' 8 16) (frame.extractLsb' 0 8) = true) (hError : frameRem error ≠ 0#8) :
    crc8vPass ((frame ^^^ error).extractLsb' 8 16) ((frame ^^^ error).extractLsb' 0 8) = false := by
  have hFrame : frameRem frame = 0#8 := (crc8vPass_iff _ _).mp hPass
  rw [← Bool.not_eq_true, crc8vPass_iff]
  change frameRem (frame ^^^ error) ≠ 0#8
  rwa [frameRem_respectsXor, hFrame, BitVec.zero_xor]

/-- The divisor has four terms, an even number. -/
theorem weight_gen_shiftRight {i : Nat} (hi : i < 16) : weight (gen >>> i) % 2 = 0 := by
  revert i
  decide

/-- So the division keeps the parity of the dividend's weight. -/
theorem crcDivide_parity (raw : Data) (chk : Byte) {i : Nat} (hi : i ≤ 16) :
    weight (crcDivide raw chk i).1 % 2 = weight (dividend raw chk) % 2 := by
  induction i with
  | zero => rfl
  | succ i ih =>
    rw [crcDivide_remainder, ← ih (by omega)]
    split
    · exact weight_xor_even _ (weight_gen_shiftRight hi)
    · rfl

/-- An error of odd weight has a remainder. -/
theorem frameRem_of_odd {error : BitVec 24} (h : weight error % 2 = 1) : frameRem error ≠ 0#8 := by
  intro hRem
  have hParity := crcDivide_parity (error.extractLsb' 8 16) (error.extractLsb' 0 8) le_rfl
  have hZero : crcRemainder (error.extractLsb' 8 16) (error.extractLsb' 0 8) = 0#24 := by
    rw [crcRemainder_eq]
    exact congrArg (0x0000#16 ++ ·) hRem
  rw [← crcRemainder, hZero, dividend, bytes_append, weight_eq_zero_iff.mpr rfl] at hParity
  omega

/-- The 24 single-bit errors have 24 different remainders: x⁸+x⁵+x⁴+1 divides no xᵏ+1 for 1 ≤ k ≤ 23. -/
theorem frameRem_twoPow_nodup : ((List.range 24).map fun k => frameRem (BitVec.twoPow 24 k)).Nodup := by
  decide +kernel

theorem frameRem_twoPow_inj {i j : Nat} (hi : i < 24) (hj : j < 24)
    (h : frameRem (BitVec.twoPow 24 i) = frameRem (BitVec.twoPow 24 j)) : i = j :=
  List.inj_on_of_nodup_map frameRem_twoPow_nodup (List.mem_range.mpr hi) (List.mem_range.mpr hj) h

/-- An error of two bits has a remainder. -/
theorem frameRem_of_weight_two {error : BitVec 24} (h : weight error = 2) : frameRem error ≠ 0#8 := by
  obtain ⟨i, hi, x, rfl, hx⟩ := exists_flip_of_weight h
  obtain ⟨j, hj, y, rfl, hy⟩ := exists_flip_of_weight hx
  obtain rfl := weight_eq_zero_iff.mp hy
  rw [BitVec.zero_xor, frameRem_respectsXor, Ne, BitVec.xor_eq_zero_iff]
  intro hRem
  obtain rfl := frameRem_twoPow_inj hj hi hRem
  simp [weight_eq_zero_iff.mpr] at h

/-- Settles O15: parity for the odd weights, different remainders of the single bits for two bits. -/
theorem frameErrorsAreDetected : Obligations.FrameErrorsAreDetected := by
  unfold Obligations.FrameErrorsAreDetected
  intro frame error hPass hError
  apply crc8vPass_of_error hPass
  obtain ⟨k, hk, rfl⟩ | hOdd | hTwo := hError
  · exact frameRem_of_odd (congrArg (· % 2) (weight_twoPow hk))
  · exact frameRem_of_odd hOdd
  · exact frameRem_of_weight_two hTwo

/-- Every frame that passes fails with any one bit inverted. -/
theorem crc8vPass_flip {frame : BitVec 24}
    (hPass : crc8vPass (frame.extractLsb' 8 16) (frame.extractLsb' 0 8) = true) {k : Nat} (hk : k < 24) :
    crc8vPass ((frame ^^^ (1#24 <<< k)).extractLsb' 8 16) ((frame ^^^ (1#24 <<< k)).extractLsb' 0 8) = false :=
  frameErrorsAreDetected frame _ hPass (.inl ⟨k, hk, rfl⟩)

/-- Settles O16: the vectors are evaluated; the inverted bits are single-bit errors. -/
theorem requiredVectorsPass : Obligations.RequiredVectorsPass := by
  unfold Obligations.RequiredVectorsPass
  have hFirst : crc8vPass ((0x00DC79#24).extractLsb' 8 16) ((0x00DC79#24).extractLsb' 0 8) = true := by decide +kernel
  have hSecond : crc8vPass ((0x683A7C#24).extractLsb' 8 16) ((0x683A7C#24).extractLsb' 0 8) = true := by decide +kernel
  have hThird : crc8vPass ((0x4E856B#24).extractLsb' 8 16) ((0x4E856B#24).extractLsb' 0 8) = true := by decide +kernel
  simp only [List.forall_mem_cons]
  exact ⟨⟨hFirst, fun _ => crc8vPass_flip hFirst⟩, ⟨hSecond, fun _ => crc8vPass_flip hSecond⟩,
    ⟨hThird, fun _ => crc8vPass_flip hThird⟩, nofun⟩

/-! ### NOP and VERIFY (R105, R106) -/

/-- Settles O7: NOP's word is a write of CMD with DATA 0, and OP 0x00 does nothing. -/
theorem nopChangesNothing : Obligations.NopChangesNothing := by
  unfold Obligations.NopChangesNothing
  exact ⟨decode_write 0 0x0000, fun s => ⟨rfl, fun high => exec_wr_cmd high 0x00 s⟩⟩

/-- VERIFY writes the verifier's answer on the operands (R106). -/
theorem exec_verify (s : State) : exec .verify s =
    .next (writeVerifyResult (crc8vRem s.crcData s.crcChk) (crc8vPass s.crcData s.crcChk) s) := rfl

/-- It writes no operand, so a second VERIFY gives the same (R106). -/
theorem exec_verify_twice {s t : State} (h : exec .verify s = .next t) : exec .verify t = .next t := by
  cases h
  rfl

/-- A checksum with one bit of the right one inverted fails (R106, R107). -/
theorem crc8vPass_flip_chk {raw : Data} {chk : Byte} {k : Nat} (hk : k < 8) (h : crc8vPass raw chk = true) :
    crc8vPass raw (chk ^^^ (1#8 <<< k)) = false := by
  have hBit : 1#8 <<< k ≠ 0#8 := by
    revert k
    decide
  rw [← Bool.not_eq_true, crc8vPass_iff_crcOf, ← (crc8vPass_iff_crcOf raw chk).mp h]
  simpa using hBit

/-- Settles O11: VERIFY by its definition, the corner cases by the check value, the Sequencer by its frame. -/
theorem verifyWritesItsResults : Obligations.VerifyWritesItsResults := by
  unfold Obligations.VerifyWritesItsResults
  refine ⟨decode_write 0 0x0001, exec_verify, fun s t => exec_verify_twice, by decide +kernel, fun chk => ?onlyChk,
    fun raw chk k => crc8vPass_flip_chk, by decide +kernel, fun s t he h => ?sequencer⟩
  case onlyChk =>
    have hCrc : crcOf 0xFFFF = 0x2D := by decide +kernel
    rw [crc8vPass_iff_crcOf, hCrc]
  case sequencer =>
    have hKeeps := step_keepsHostWritten (.inl he) h
    exact ⟨hKeeps.crcRem, hKeeps.crcPass, hKeeps.crcValid⟩

end Sys2Proof.Proofs
end

section
/-! PROOFS. The steps of a measurement, one by one (41_measurement_protocol.md R131, R135 to R141, R144). -/

namespace Sys2Proof.Proofs

open Sys2Proof.Machine

variable {s t : State}

/-! ### Accepting a measurement (R131) -/

/-- Settles O17: the two branches of MeasAccept, for both kinds. -/
theorem measurementAcceptedOrRejected : Obligations.MeasurementAcceptedOrRejected := by
  unfold Obligations.MeasurementAcceptedOrRejected
  intro s hBoot
  exact ⟨fun hIdle => ⟨measAccept_idle hBoot hIdle, measAccept_idle hBoot hIdle⟩,
    fun hBusy => ⟨measAccept_busy hBoot hBusy, measAccept_busy hBoot hBusy⟩⟩

/-! ### TRIGGER and CMD_SENT (R135, R136) -/

/-- A scheduled Sequencer event is the Sequencer's step on the state without it (R63). -/
theorem step_of_sequencer {rest : List Event} (h : s.schedule = .sequencer :: rest) :
    step s = sequencerStep (setSchedule rest s) := step_of_schedule h

theorem stepTrigger_eq (s : State) :
    stepTrigger s = { s with seqState := seqCmdSent, busTrace := s.busTrace ++ triggerTrace s.kind } := by
  rw [← stepTrigger_busTrace]
  rfl

/-- Settles O19: the trigger's equation. -/
theorem triggerSendsOneByte : Obligations.TriggerSendsOneByte := by
  unfold Obligations.TriggerSendsOneByte
  intro s rest hSched hState
  rw [step_of_sequencer hSched, sequencerStep_trigger (s := setSchedule rest s) hState, stepTrigger_eq]
  rfl

/-- Settles O20: CMD_SENT's step writes these three registers. -/
theorem cmdSentEntersPolling : Obligations.CmdSentEntersPolling := by
  unfold Obligations.CmdSentEntersPolling
  intro s rest hSched hState
  rw [step_of_sequencer hSched, sequencerStep_cmdSent (s := setSchedule rest s) hState]
  rfl

/-! ### The tick (R137) -/

theorem step_of_tick {rest : List Event} (h : s.schedule = .tick :: rest) :
    step s = .next (tick (setSchedule rest s)) := step_of_schedule h

/-- The last tick of a delay brings the poll. -/
theorem tick_last (hState : s.seqState = seqPollWait) (hDelay : s.delay = 1) :
    tick s = { s with delay := 0, seqState := seqPollReq } := by
  have hZero : s.delay - 1 = 0 := by rw [hDelay]; rfl
  obtain ⟨h, -⟩ | ⟨-, -, h⟩ | ⟨-, h, -⟩ := tick_cases (s := s)
  · exact absurd hState h
  · rw [h, ← hZero]
    rfl
  · exact absurd hZero h

/-- Every other tick in POLL_WAIT counts DELAY down. -/
theorem tick_counts (hState : s.seqState = seqPollWait) (hDelay : s.delay ≠ 1) :
    tick s = { s with delay := s.delay - 1 } := by
  obtain ⟨h, -⟩ | ⟨-, h, -⟩ | ⟨-, -, h⟩ := tick_cases (s := s)
  · exact absurd hState h
  · exact absurd (by bv_omega) hDelay
  · exact h

/-- Outside POLL_WAIT a tick has no effect. -/
theorem tick_elsewhere (hState : s.seqState ≠ seqPollWait) : tick s = s := if_neg hState

/-- As many ticks as DELAY counts bring the poll. -/
theorem run_ticks {n : Nat} {rest : List Event} (hSched : s.schedule = List.replicate (n + 1) .tick ++ rest)
    (hState : s.seqState = seqPollWait) (hDelay : s.delay.toNat = n + 1) :
    core.run (n + 1) s = .next { s with schedule := rest, delay := 0, seqState := seqPollReq } := by
  induction n generalizing s with
  | zero =>
    have hLast : s.delay = 1 := by bv_omega
    have hTick : step s = .next { s with schedule := rest, delay := 0, seqState := seqPollReq } :=
      (step_of_tick hSched).trans (congrArg _ (tick_last hState hLast))
    exact core_run_succ 0 hTick
  | succ n ih =>
    have hMore : s.delay ≠ 1 := by bv_omega
    have hTick : step s = .next { s with schedule := List.replicate (n + 1) .tick ++ rest, delay := s.delay - 1 } :=
      (step_of_tick hSched).trans (congrArg _ (tick_counts hState hMore))
    have hLess : (s.delay - 1).toNat = n + 1 := by bv_omega
    exact (core_run_succ (n + 1) hTick).trans (ih rfl hState hLess)

/-- Settles O21: one tick by the three cases above, ten by induction on DELAY. -/
theorem tickCountsTheDelay : Obligations.TickCountsTheDelay := by
  unfold Obligations.TickCountsTheDelay
  refine fun s rest => ⟨fun hSched => ?_, fun hSched hState hDelay => run_ticks hSched hState (by rw [hDelay]; rfl)⟩
  rw [step_of_tick hSched]
  refine ⟨fun hState hDelay => ?_, fun hState hDelay => ?_, fun hState => ?_⟩
  · rw [tick_last (s := setSchedule rest s) hState hDelay]
    rfl
  · rw [tick_counts (s := setSchedule rest s) hState hDelay]
    rfl
  · rw [tick_elsewhere (s := setSchedule rest s) hState]
    rfl

/-! ### The poll (R138, R139) -/

/-- The poll's request takes the answer and puts it on the record. -/
theorem busRequest_eq (s : State) :
    busRequest s = { s.takeAvailable with busTrace := s.busTrace ++ pollTrace [s.nextAvailable] } := by
  rw [← s.takeAvailable_busTrace]
  rfl

/-- A poll that answers 3 goes to DATA_READY. -/
theorem stepPollReq_found (h : s.nextAvailable = readCount) : stepPollReq s =
    { s.takeAvailable with seqState := seqDataReady, busTrace := s.busTrace ++ pollTrace [3] } := by
  rw [stepPollReq, if_pos h, busRequest_eq, h]
  rfl

/-- A failed poll as it is counted, before the bound is looked at: its answer is taken and on the record, and an answer
above 3 is noted (R139). -/
def countedPoll (n : Byte) (s : State) : State := { s.takeAvailable with
  adapterErr := s.adapterErr || decide (3 < n.toNat)
  attempt := s.attempt + 1
  busTrace := s.busTrace ++ pollTrace [n] }

/-- A poll that does not answer 3 is counted, and the count decides. -/
theorem stepPollReq_failed {n : Byte} (h : s.nextAvailable = n) (hn : n ≠ 3) : stepPollReq s =
    if s.attempt + 1 = maxAttempts then endMeasurement .timeout sentTimeout (countedPoll n s)
    else enterPollWait (countedPoll n s) := by
  subst h
  have hFailed : s.nextAvailable ≠ readCount := hn
  rw [stepPollReq, if_neg hFailed, pollFailed_eq, notedAnswer_eq, busRequest_attempt, busRequest_adapterErr,
    busRequest_eq]
  rfl

/-- Below the bound a failed poll waits again. -/
theorem stepPollReq_again {n : Byte} (h : s.nextAvailable = n) (hn : n ≠ 3) (ha : s.attempt ≠ 9) :
    stepPollReq s = enterPollWait (countedPoll n s) := by
  have hBelow : s.attempt + 1 ≠ maxAttempts := fun hMax => ha (by unfold maxAttempts at hMax; bv_omega)
  rw [stepPollReq_failed h hn, if_neg hBelow]

/-- The tenth failed poll times out. -/
theorem stepPollReq_timeout {n : Byte} (h : s.nextAvailable = n) (hn : n ≠ 3) (ha : s.attempt = 9) :
    stepPollReq s = endMeasurement .timeout sentTimeout (countedPoll n s) := by
  have hBound : s.attempt + 1 = maxAttempts := by rw [ha]; rfl
  rw [stepPollReq_failed h hn, if_pos hBound]

/-- Settles O23: the three equations of the poll. -/
theorem pollFindsThreeBytesOrFails : Obligations.PollFindsThreeBytesOrFails := by
  unfold Obligations.PollFindsThreeBytesOrFails
  intro s rest n hSched hState hAnswer
  rw [step_of_sequencer hSched, sequencerStep_pollReq (s := setSchedule rest s) hState]
  refine ⟨fun hn => ?_, fun hn ha => ?_, fun hn ha => ?_⟩
  · rw [stepPollReq_found (s := setSchedule rest s) (hAnswer.trans hn), takeAvailable_setSchedule]
    rfl
  · rw [stepPollReq_again (s := setSchedule rest s) hAnswer hn ha, countedPoll, takeAvailable_setSchedule]
    rfl
  · rw [stepPollReq_timeout (s := setSchedule rest s) hAnswer hn ha, countedPoll, takeAvailable_setSchedule,
      setSchedule_attempt, ha]
    rfl

/-! ### Reading the frame (R140) -/

/-- The most significant byte first is the upper half of the word (R86). -/
theorem rawOf_eq_append (msb lsb : Byte) : rawOf msb lsb = msb ++ lsb := by
  rw [BitVec.append_def, BitVec.shiftLeftZeroExtend_eq]
  rfl

/-- The three reads of a frame (R140). -/
def frameTrace (msb lsb chk : Byte) : List BusEvent := [.readByte msb, .readByte lsb, .readByte chk]

/-- DATA_READY latches the three answers and goes on; beside that only the input list and the counter of free values
move. -/
theorem stepDataReady_eq (s : State) : stepDataReady s = { s with
    seqState := seqCrcCheck
    seqRaw := s.nextByte ++ (busRead s).nextByte
    seqChk := (busRead (busRead s)).nextByte
    byteAnswers := (busRead (busRead (busRead s))).byteAnswers
    freeIndex := (busRead (busRead (busRead s))).freeIndex
    busTrace := s.busTrace ++ frameTrace s.nextByte (busRead s).nextByte (busRead (busRead s)).nextByte } := by
  apply State.ext <;> simp [stepDataReady, rawOf_eq_append, frameTrace]

/-- A read that the input list answers takes its answer from there and no free value. -/
theorem busRead_of_input {b : Byte} {later : List Byte} (h : s.byteAnswers = b :: later) :
    (busRead s).byteAnswers = later ∧ (busRead s).freeIndex = s.freeIndex := by
  simp [busRead, takeByte_of_input s h]

/-- With three answers in the input list DATA_READY takes exactly these. -/
theorem stepDataReady_of_input {msb lsb chk : Byte} {later : List Byte}
    (h : s.byteAnswers = msb :: lsb :: chk :: later) : stepDataReady s = { s with
      seqState := seqCrcCheck
      seqRaw := msb ++ lsb
      seqChk := chk
      byteAnswers := later
      busTrace := s.busTrace ++ frameTrace msb lsb chk } := by
  obtain ⟨hMsb, hFree⟩ := busRead_of_input h
  obtain ⟨hLsb, hFree'⟩ := busRead_of_input hMsb
  obtain ⟨hChk, hFree''⟩ := busRead_of_input hLsb
  rw [stepDataReady_eq, nextByte_of_input s h, nextByte_of_input _ hMsb, nextByte_of_input _ hLsb, hChk, hFree'',
    hFree', hFree]

/-- Settles O24: DATA_READY's equation, with the answers of the input list and with any. -/
theorem dataReadyLatchesFrame : Obligations.DataReadyLatchesFrame := by
  unfold Obligations.DataReadyLatchesFrame
  intro s rest hSched hState
  rw [step_of_sequencer hSched, sequencerStep_dataReady (s := setSchedule rest s) hState]
  refine ⟨fun msb lsb chk later hInput => ?_, _, _, _, _, _, congrArg _ (stepDataReady_eq (setSchedule rest s))⟩
  rw [stepDataReady_of_input (s := setSchedule rest s) hInput]
  rfl

/-! ### The outcome of a frame (R141, R142) -/

/-- STATUS_MASK has bits 15 to 2. -/
theorem statusMask_getElem : ∀ i, (h : i < 16) → statusMask[i] = decide (2 ≤ i) := by
  decide

/-- The mask keeps bits 15 to 2 and clears the two status bits. -/
theorem cleaned_eq_append (raw : Data) : cleaned raw = raw.extractLsb' 2 14 ++ 0b00#2 := by
  ext i hi
  rw [cleaned, BitVec.getElem_and, statusMask_getElem i hi, BitVec.getElem_append]
  split
  next hLow => simp [Nat.not_le.mpr hLow]
  next hHigh => simp [Nat.le_of_not_lt hHigh, BitVec.getLsbD_eq_getElem hi]

theorem stepCrcCheck_pass (h : crc8vPass s.seqRaw s.seqChk = true) :
    stepCrcCheck s = endMeasurement .ok (cleaned s.seqRaw) s := if_pos h

theorem stepCrcCheck_fail (h : crc8vPass s.seqRaw s.seqChk = false) :
    stepCrcCheck s = endMeasurement .crcFail sentCrc s := if_neg (Bool.not_eq_true _ ▸ h)

/-- Settles O25: the two ends of CRC_CHECK. -/
theorem crcCheckEndsMeasurement : Obligations.CrcCheckEndsMeasurement := by
  unfold Obligations.CrcCheckEndsMeasurement
  intro s rest hSched hState
  rw [step_of_sequencer hSched, sequencerStep_crcCheck (s := setSchedule rest s) hState]
  refine ⟨fun hPass => ?_, fun hFail => ?_⟩
  · rw [stepCrcCheck_pass (s := setSchedule rest s) hPass, cleaned_eq_append]
    rfl
  · rw [stepCrcCheck_fail (s := setSchedule rest s) hFail]
    rfl

/-! ### The two kinds (R144) -/

/-- The state with a given kind of measurement; every step but TRIGGER's commutes with it. -/
def withKind (k : Kind) (s : State) : State := { s with kind := k }

@[simp] theorem withKind_availAnswers (k : Kind) (s : State) : (withKind k s).availAnswers = s.availAnswers := rfl
@[simp] theorem withKind_byteAnswers (k : Kind) (s : State) : (withKind k s).byteAnswers = s.byteAnswers := rfl

theorem takeAvailable_withKind (k : Kind) (s : State) : (withKind k s).takeAvailable = withKind k s.takeAvailable := by
  unfold State.takeAvailable
  rw [withKind_availAnswers]
  split <;> rfl

theorem countedPoll_withKind (n : Byte) (k : Kind) (s : State) :
    countedPoll n (withKind k s) = withKind k (countedPoll n s) := by
  rw [countedPoll, takeAvailable_withKind]
  rfl

theorem busRead_withKind (k : Kind) (s : State) : busRead (withKind k s) = withKind k (busRead s) := by
  unfold busRead State.takeByte
  rw [withKind_byteAnswers]
  split <;> rfl

theorem stepTrigger_withKind (k : Kind) (s : State) :
    stepTrigger (withKind k s) = { withKind k (stepTrigger s) with busTrace := s.busTrace ++ triggerTrace k } := by
  rw [stepTrigger_eq]
  rfl

theorem stepPollReq_withKind (k : Kind) (s : State) : stepPollReq (withKind k s) = withKind k (stepPollReq s) := by
  by_cases hFound : s.nextAvailable = readCount
  · rw [stepPollReq_found hFound, stepPollReq_found (s := withKind k s) hFound, takeAvailable_withKind]
    rfl
  · rw [stepPollReq_failed rfl hFound, stepPollReq_failed (s := withKind k s) rfl hFound, countedPoll_withKind,
      apply_ite (withKind k)]
    rfl

theorem stepDataReady_withKind (k : Kind) (s : State) :
    stepDataReady (withKind k s) = withKind k (stepDataReady s) := by
  simp only [stepDataReady, busRead_withKind]
  rfl

theorem stepCrcCheck_withKind (k : Kind) (s : State) : stepCrcCheck (withKind k s) = withKind k (stepCrcCheck s) := by
  unfold stepCrcCheck
  rw [apply_ite (withKind k)]
  rfl

theorem tick_withKind (k : Kind) (s : State) : tick (withKind k s) = withKind k (tick s) := by
  by_cases hState : s.seqState = seqPollWait
  · by_cases hDelay : s.delay = 1
    · rw [tick_last hState hDelay, tick_last (s := withKind k s) hState hDelay]
      rfl
    · rw [tick_counts hState hDelay, tick_counts (s := withKind k s) hState hDelay]
      rfl
  · rw [tick_elsewhere hState, tick_elsewhere (s := withKind k s) hState]

/-- Outside TRIGGER a Sequencer step does the same for either kind. -/
theorem sequencerStep_withKind (k : Kind) (hState : s.seqState ≠ seqTrigger) (h : sequencerStep s = .next t) :
    sequencerStep (withKind k s) = .next (withKind k t) := by
  obtain ⟨hs | hs, rfl⟩ | ⟨hs, -⟩ | ⟨hs, rfl⟩ | ⟨hs, rfl⟩ | ⟨hs, rfl⟩ | ⟨hs, rfl⟩ := sequencerStep_cases h
  · exact sequencerStep_idle hs
  · exact sequencerStep_pollWait hs
  · exact absurd hs hState
  · exact sequencerStep_cmdSent (s := withKind k s) hs
  · rw [sequencerStep_pollReq (s := withKind k s) hs, stepPollReq_withKind]
  · rw [sequencerStep_dataReady (s := withKind k s) hs, stepDataReady_withKind]
  · rw [sequencerStep_crcCheck (s := withKind k s) hs, stepCrcCheck_withKind]

/-- Settles O28: the accept and each step commute with a change of KIND, but for TRIGGER's byte. -/
theorem kindsDifferOnlyInTriggerByte : Obligations.KindsDifferOnlyInTriggerByte := by
  unfold Obligations.KindsDifferOnlyInTriggerByte
  refine ⟨fun s hBoot hIdle => ⟨_, measAccept_idle hBoot hIdle, measAccept_idle hBoot hIdle⟩, fun s t k h => ?_,
    fun s k => tick_withKind k s⟩
  split
  next hTrigger =>
    cases (sequencerStep_trigger hTrigger).symm.trans h
    exact (sequencerStep_trigger (s := withKind k s) hTrigger).trans (congrArg _ (stepTrigger_withKind k s))
  next hOther => exact sequencerStep_withKind k hOther h

end Sys2Proof.Proofs
end

section
/-! PROOFS. What a measurement works on, which no transaction disturbs (41_measurement_protocol.md R143, R145). -/

namespace Sys2Proof.Proofs

open Sys2Proof.Machine

variable {s t : State}

/-! ### The part of the state a measurement works on -/

/-- What the Sequencer and the tick read and write for a measurement, and the record of the bus (R22, R27 to R33). -/
structure MeasurementView where
  seqState : BitVec 4
  kind : Kind
  resultCode : ResultCode
  result : Data
  attempt : BitVec 4
  delay : BitVec 4
  seqRaw : Data
  seqChk : Byte
  adapterErr : Bool
  busTrace : List BusEvent

/-- The part of a state that a measurement works on. -/
def view (s : State) : MeasurementView :=
  ⟨s.seqState, s.kind, s.resultCode, s.result, s.attempt, s.delay, s.seqRaw, s.seqChk, s.adapterErr, s.busTrace⟩

/-- Two states have the same view when these registers and the trace agree. -/
theorem view_eq_iff : view t = view s ↔ t.seqState = s.seqState ∧ t.kind = s.kind ∧ t.resultCode = s.resultCode
    ∧ t.result = s.result ∧ t.attempt = s.attempt ∧ t.delay = s.delay ∧ t.seqRaw = s.seqRaw ∧ t.seqChk = s.seqChk
    ∧ t.adapterErr = s.adapterErr ∧ t.busTrace = s.busTrace :=
  Iff.of_eq (MeasurementView.mk.injEq ..)

/-- Taking an event from the schedule is no part of a measurement (R63). -/
@[simp] theorem view_takeEvent (s : State) : view s.takeEvent = view s := by
  simp [view]

/-- Nor is a boot requirement that the environment meets (R215). -/
@[simp] theorem view_meetRequirement (r : BootRequirement) (s : State) : view (meetRequirement r s) = view s := rfl

/-- While BUSY no instruction has an effect on the measurement (R145): the one that would, an accepted MEAS_*,
needs IDLE. -/
theorem effect_view (h : Effect s t) (hBusy : s.seqState ≠ seqIdle) : view t = view s := by
  obtain rfl | ⟨v, rfl⟩ | ⟨d, rfl⟩ | ⟨d, rfl⟩ | rfl | rfl | ⟨k, -, hIdle, -⟩ := h
  any_goals rfl
  exact absurd hIdle hBusy

theorem hostStep_view (h : hostStep s = .next t) (hBusy : s.seqState ≠ seqIdle) : view t = view s := by
  obtain ⟨u, hu, pc, n, rfl⟩ := hostStep_effect h
  have hView := effect_view hu hBusy
  exact hView

@[simp] theorem resetBlock_seqState (s : State) : (resetBlock s).seqState = seqIdle := rfl

/-- Settles O9: the view of the measurement is the same after every instruction; reset goes to IDLE. -/
theorem onlyResetCancelsMeasurement : Obligations.OnlyResetCancelsMeasurement := by
  unfold Obligations.OnlyResetCancelsMeasurement
  refine ⟨fun i s _ hBoot => exec_next (.inl hBoot), fun i s t hBusy h => ?_, fun s hr => ?_⟩
  · exact view_eq_iff.mp (effect_view (exec_effect h) hBusy)
  · exact ⟨_, step_of_reset hr, resetBlock_seqState _, (resetBlock_busTrace _).trans s.takeEvent_busTrace⟩

/-! ### Leaving IDLE (R30, R131) -/

/-- A command value below 4 has a command of its own (R83). -/
theorem decodeCmd8_defined : ∀ op : Byte, op.toNat < 4 → ∃ i, decodeCmd8 op = some i ∧ i.wf = true := by
  intro op hop
  obtain rfl | rfl | rfl | rfl : op = 0 ∨ op = 1 ∨ op = 2 ∨ op = 3 := by bv_omega
  all_goals exact ⟨_, rfl, rfl⟩

theorem decodeWrite_wf (reg : Reg) (data : Data) : (decodeWrite reg data).wf = true := by
  by_cases hReg : reg = .cmd
  · subst hReg
    by_cases hOp : 4 ≤ (data.setWidth 8).toNat
    · rw [decodeWrite_reserved hOp]
      exact decide_eq_true hOp
    · obtain ⟨i, hi, hWf⟩ := decodeCmd8_defined _ (Nat.lt_of_not_le hOp)
      rw [decodeWrite, hi]
      exact hWf
  · rw [decodeWrite_of_ne_cmd hReg]
    cases reg with
    | cmd => contradiction
    | _ => rfl

/-- The decoder answers well-formed instructions only (R83, R84). -/
theorem decode_wf (w : Htw) : (decode w).wf = true := by
  unfold decode
  split
  · exact decodeWrite_wf _ _
  · rfl

/-- The only well-formed instructions that leave IDLE are MEAS_RH and MEAS_T. -/
theorem exec_leaves_idle {i : Instr} (hWf : i.wf = true) (h : exec i s = .next t) (hs : s.seqState = seqIdle)
    (ht : t.seqState ≠ seqIdle) : i = .measRh ∨ i = .measT := by
  cases i with
  | measRh => exact .inl rfl
  | measT => exact .inr rfl
  | wr reg data =>
    cases reg with
    | cmd =>
      have hReserved : exec (.wr .cmd data) s = .next (recordCmdErr s) :=
        executeCommand_reserved (of_decide_eq_true hWf)
      cases hReserved.symm.trans h
      exact absurd hs ht
    | _ => cases h; exact absurd hs ht
  | _ => cases h; exact absurd hs ht

theorem hostStep_leaves_idle (h : hostStep s = .next t) (hs : s.seqState = seqIdle) (ht : t.seqState ≠ seqIdle) :
    ∃ w, s.hostProgram[s.hostPc]? = some (.txn w) ∧ (decode w = .measRh ∨ decode w = .measT) := by
  obtain ⟨-, h'⟩ | ⟨w, u, hw, hu, h'⟩ | ⟨w, -, -, -, h'⟩ | ⟨pc, h'⟩ := hostStep_cases (s := s) <;>
    cases h'.symm.trans h
  · exact absurd hs ht
  · exact ⟨w, hw, exec_leaves_idle (decode_wf w) hu hs ht⟩
  · exact absurd (by simpa using hs) ht

/-- Only the Host leaves IDLE: the Sequencer and the tick have nothing to do there, and reset leads there (R134,
R137). -/
theorem step_leaves_idle (h : step s = .next t) (hs : s.seqState = seqIdle) (ht : t.seqState ≠ seqIdle) :
    s.nextEvent = .host ∧ ∃ w, s.hostProgram[s.hostPc]? = some (.txn w) ∧ (decode w = .measRh ∨ decode w = .measT) := by
  have hIdle : s.takeEvent.seqState = seqIdle := s.takeEvent_seqState.trans hs
  obtain ⟨he, hHost⟩ | ⟨-, hSeq⟩ | ⟨-, rfl⟩ | ⟨-, rfl⟩ | ⟨r, -, rfl⟩ := step_cases h
  · refine ⟨he, ?_⟩
    simpa using hostStep_leaves_idle hHost hIdle ht
  · cases (sequencerStep_idle hIdle).symm.trans hSeq
    exact absurd hIdle ht
  · have hTick : tick s.takeEvent = s.takeEvent := tick_elsewhere (by simp [hs])
    rw [hTick] at ht
    exact absurd hIdle ht
  · exact absurd rfl ht
  · exact absurd hIdle ht

/-- The SEQ_STATEs in which the Sequencer uses the bus (R135, R138, R140). -/
theorem BusOutput.seqState {k : Kind} {st : BitVec 4} {out : List BusEvent} (h : BusOutput k st out) :
    st = 1 ∨ st = 4 ∨ st = 5 := by
  cases h with
  | trigger => exact .inl rfl
  | poll => exact .inr (.inl rfl)
  | frame => exact .inr (.inr rfl)

/-- Settles O38: what a step can put on the bus, by SEQ_STATE, and the one way out of IDLE. -/
theorem busIsQuietUntilNextMeasurement : Obligations.BusIsQuietUntilNextMeasurement := by
  unfold Obligations.BusIsQuietUntilNextMeasurement
  intro s t h
  obtain hSame | ⟨out, he, hOut, hTrace⟩ := step_busTrace h
  · exact ⟨⟨[], by rw [hSame, List.append_nil]⟩, fun hNew => absurd hSame hNew, step_leaves_idle h⟩
  · exact ⟨⟨out, hTrace.symm⟩, fun _ => ⟨he, hOut.seqState⟩, step_leaves_idle h⟩

end Sys2Proof.Proofs
end

section
/-! PROOFS. The trace, the counts and the outcome of one measurement (41_measurement_protocol.md R147): what has been
observed of it is an invariant of its run, phase by phase of SEQ_STATE. -/

namespace Sys2Proof.Proofs

open Sys2Proof.Machine

variable {s t u : State} {m m' : MeasurementView} {failed : List Byte} {out : List BusEvent} {steps ticks : Nat}

/-! ### What has been observed of a measurement -/

/-- Of the measurement that began in `s` it is seen in `m` that the polls with the answers `failed` have failed, which
ATTEMPT counts and of which an answer above 3 has set ADAPTER_ERR (R139), and that `out` is what it has put on the
bus. -/
structure Observed (s : State) (failed : List Byte) (out : List BusEvent) (m : MeasurementView) : Prop where
  kind : m.kind = s.kind
  attempt : m.attempt.toNat = failed.length
  noFrame : ∀ n ∈ failed, n ≠ 3
  adapterErr : m.adapterErr = (s.adapterErr || failed.any (3 < ·.toNat))
  busTrace : m.busTrace = s.busTrace ++ out

/-- The bus primitives of a measurement of kind `k` up to the polls with these answers. -/
def polledTrace (k : Kind) (answers : List Byte) : List BusEvent := triggerTrace k ++ pollTrace answers

/-- The outcome CRC_CHECK reports of a frame (R141). -/
def FrameOutcome (raw : Data) (chk : Byte) (m : MeasurementView) : Prop :=
  (crc8vPass raw chk = true ∧ m.resultCode = .ok ∧ m.result = cleaned raw)
    ∨ (crc8vPass raw chk = false ∧ m.resultCode = .crcFail ∧ m.result = sentCrc)

/-- A measurement that began in `s` and has come to `m`, after so many Sequencer steps and counted ticks, without a
reset: one case for each phase of SEQ_STATE, and two ends. -/
inductive Progress (s : State) (steps ticks : Nat) (m : MeasurementView) : Prop where
  | accepted (phase : m.seqState = seqTrigger) (seen : Observed s [] [] m) (hSteps : steps = 0) (hTicks : ticks = 0)
  | sent (phase : m.seqState = seqCmdSent) (seen : Observed s [] (triggerTrace s.kind) m) (hSteps : steps = 1)
      (hTicks : ticks = 0)
  | waiting {failed : List Byte} (phase : m.seqState = seqPollWait)
      (seen : Observed s failed (polledTrace s.kind failed) m) (bound : failed.length ≤ 9)
      (hSteps : steps = 2 + failed.length) (delayed : 1 ≤ m.delay.toNat)
      (hTicks : ticks + m.delay.toNat = 10 * (failed.length + 1))
  | due {failed : List Byte} (phase : m.seqState = seqPollReq)
      (seen : Observed s failed (polledTrace s.kind failed) m) (bound : failed.length ≤ 9)
      (hSteps : steps = 2 + failed.length) (hTicks : ticks = 10 * (failed.length + 1))
  | found {failed : List Byte} (phase : m.seqState = seqDataReady)
      (seen : Observed s failed (polledTrace s.kind (failed ++ [3])) m) (bound : failed.length ≤ 9)
      (hSteps : steps = 3 + failed.length) (hTicks : ticks = 10 * (failed.length + 1))
  | latched {failed : List Byte} {msb lsb chk : Byte} (phase : m.seqState = seqCrcCheck)
      (seen : Observed s failed (polledTrace s.kind (failed ++ [3]) ++ frameTrace msb lsb chk) m)
      (bound : failed.length ≤ 9) (hSteps : steps = 4 + failed.length) (hTicks : ticks = 10 * (failed.length + 1))
      (raw : m.seqRaw = msb ++ lsb) (chk : m.seqChk = chk)
  | timedOut {failed : List Byte} (phase : m.seqState = seqIdle)
      (seen : Observed s failed (polledTrace s.kind failed) m) (tenth : failed.length = 10)
      (hSteps : steps = 12) (hTicks : ticks = 100) (code : m.resultCode = .timeout) (result : m.result = sentTimeout)
  | checked {failed : List Byte} {msb lsb chk : Byte} (phase : m.seqState = seqIdle)
      (seen : Observed s failed (polledTrace s.kind (failed ++ [3]) ++ frameTrace msb lsb chk) m)
      (bound : failed.length ≤ 9) (hSteps : steps = 5 + failed.length) (hTicks : ticks = 10 * (failed.length + 1))
      (outcome : FrameOutcome (msb ++ lsb) chk m)

theorem pollTrace_append (a b : List Byte) : pollTrace (a ++ b) = pollTrace a ++ pollTrace b := List.map_append

/-- One more poll is one more primitive at the end of the trace (R138). -/
theorem polledTrace_append (k : Kind) (answers : List Byte) (n : Byte) :
    polledTrace k (answers ++ [n]) = polledTrace k answers ++ pollTrace [n] := by
  rw [polledTrace, pollTrace_append, polledTrace, List.append_assoc]

/-- The observation goes on while only the trace grows. -/
theorem Observed.extend {more : List BusEvent} (h : Observed s failed out m) (hKind : m'.kind = m.kind)
    (hAttempt : m'.attempt = m.attempt) (hErr : m'.adapterErr = m.adapterErr)
    (hTrace : m'.busTrace = m.busTrace ++ more) : Observed s failed (out ++ more) m' where
  kind := hKind.trans h.kind
  attempt := by rw [hAttempt, h.attempt]
  noFrame := h.noFrame
  adapterErr := hErr.trans h.adapterErr
  busTrace := by rw [hTrace, h.busTrace, List.append_assoc]

/-- It stays as it is while the trace does not grow. -/
theorem Observed.same (h : Observed s failed out m) (hKind : m'.kind = m.kind) (hAttempt : m'.attempt = m.attempt)
    (hErr : m'.adapterErr = m.adapterErr) (hTrace : m'.busTrace = m.busTrace) : Observed s failed out m' := by
  simpa using h.extend (more := []) hKind hAttempt hErr (by simpa using hTrace)

/-- A poll that fails is observed as one more (R139); ATTEMPT does not overflow below the bound. -/
theorem Observed.counted {n : Byte} (h : Observed s failed (polledTrace s.kind failed) (view t))
    (bound : failed.length ≤ 9) (hn : n ≠ 3) :
    Observed s (failed ++ [n]) (polledTrace s.kind (failed ++ [n])) (view (countedPoll n t)) where
  kind := t.takeAvailable_kind.trans h.kind
  attempt := by
    have hLen : t.attempt.toNat = failed.length := h.attempt
    change (t.attempt + 1).toNat = _
    rw [List.length_append, List.length_singleton]
    bv_omega
  noFrame := List.forall_mem_append.mpr ⟨h.noFrame, by simpa using hn⟩
  adapterErr := by
    change (t.adapterErr || _) = _
    rw [show t.adapterErr = _ from h.adapterErr, List.any_append, Bool.or_assoc]
    simp
  busTrace := by
    change t.busTrace ++ _ = _
    rw [show t.busTrace = _ from h.busTrace, List.append_assoc, ← polledTrace_append]

/-! ### The Sequencer's steps and the tick on the observation -/

/-- In IDLE and in POLL_WAIT the Sequencer has no step (R134). -/
theorem seqEnabled_of_waits (h : t.seqState = seqIdle ∨ t.seqState = seqPollWait) : t.seqEnabled = false := by
  obtain h | h := h <;> simp [State.seqEnabled, h]

@[simp] theorem seqEnabled_takeEvent (t : State) : t.takeEvent.seqEnabled = t.seqEnabled := by
  simp [State.seqEnabled]

/-- Where it has none, its event passes without effect. -/
theorem sequencerStep_disabled (hOff : t.seqEnabled = false) (h : sequencerStep t = .next u) : u = t := by
  obtain ⟨-, hSame⟩ | ⟨hs, -⟩ | ⟨hs, -⟩ | ⟨hs, -⟩ | ⟨hs, -⟩ | ⟨hs, -⟩ := sequencerStep_cases h
  · exact hSame
  all_goals simp [State.seqEnabled, hs] at hOff

/-- A poll finds the frame, or it is one more failed poll: below the bound it waits again, at it the measurement has
timed out (R138, R139). -/
theorem Observed.poll (seen : Observed s failed (polledTrace s.kind failed) (view t)) (bound : failed.length ≤ 9)
    (hSteps : steps = 2 + failed.length) (hTicks : ticks = 10 * (failed.length + 1)) :
    Progress s (steps + 1) ticks (view (stepPollReq t)) := by
  have hAttempt : t.attempt.toNat = failed.length := seen.attempt
  by_cases hFound : t.nextAvailable = readCount
  · rw [stepPollReq_found hFound]
    refine .found rfl ?_ bound (by omega) hTicks
    rw [polledTrace_append]
    exact seen.extend t.takeAvailable_kind t.takeAvailable_attempt t.takeAvailable_adapterErr rfl
  · have hSeen := seen.counted bound hFound
    have hLen : (failed ++ [t.nextAvailable]).length = failed.length + 1 := List.length_append
    by_cases hTenth : t.attempt = 9
    · have hNine : failed.length = 9 := by rw [← hAttempt, hTenth]; rfl
      rw [stepPollReq_timeout rfl hFound hTenth]
      exact .timedOut rfl (hSeen.same rfl rfl rfl rfl) (by omega) (by omega) (by omega) rfl rfl
    · have hBelow : failed.length ≤ 8 := by bv_omega
      rw [stepPollReq_again rfl hFound hTenth]
      refine .waiting rfl (hSeen.same rfl rfl rfl rfl) (by omega) (by omega) (by decide : 1 ≤ pollDelay.toNat) ?_
      change ticks + 10 = _
      omega

/-- CRC_CHECK ends the measurement with the outcome of the latched frame (R141). -/
theorem stepCrcCheck_outcome {raw : Data} {chk : Byte} (hRaw : t.seqRaw = raw) (hChk : t.seqChk = chk) :
    ∃ code value, stepCrcCheck t = endMeasurement code value t
      ∧ FrameOutcome raw chk (view (endMeasurement code value t)) := by
  subst hRaw hChk
  cases hPass : crc8vPass t.seqRaw t.seqChk with
  | true => exact ⟨_, _, stepCrcCheck_pass hPass, .inl ⟨hPass, rfl, rfl⟩⟩
  | false => exact ⟨_, _, stepCrcCheck_fail hPass, .inr ⟨hPass, rfl, rfl⟩⟩

/-- An enabled Sequencer step leads from each phase to the next (R134). -/
theorem Progress.of_sequencer (h : Progress s steps ticks (view t)) (hOn : t.seqEnabled = true)
    (hu : sequencerStep t = .next u) : Progress s (steps + 1) ticks (view u) := by
  cases h with
  | accepted phase seen hSteps hTicks =>
    cases (sequencerStep_trigger phase).symm.trans hu
    have hTrace := stepTrigger_busTrace t
    rw [show t.kind = s.kind from seen.kind] at hTrace
    exact .sent rfl (seen.extend rfl rfl rfl hTrace) (by omega) hTicks
  | sent phase seen hSteps hTicks =>
    cases (sequencerStep_cmdSent phase).symm.trans hu
    have hSeen : Observed s [] (polledTrace s.kind []) (view (stepCmdSent t)) :=
      ⟨seen.kind, rfl, seen.noFrame, seen.adapterErr, seen.busTrace⟩
    exact .waiting rfl hSeen (Nat.zero_le 9) (congrArg (· + 1) hSteps) (by decide : 1 ≤ pollDelay.toNat)
      (congrArg (· + 10) hTicks)
  | due phase seen bound hSteps hTicks =>
    cases (sequencerStep_pollReq phase).symm.trans hu
    exact seen.poll bound hSteps hTicks
  | found phase seen bound hSteps hTicks =>
    cases (sequencerStep_dataReady phase).symm.trans hu
    rw [stepDataReady_eq]
    exact .latched rfl (seen.extend rfl rfl rfl rfl) bound (by omega) hTicks rfl rfl
  | latched phase seen bound hSteps hTicks raw chk =>
    cases (sequencerStep_crcCheck phase).symm.trans hu
    obtain ⟨code, value, hEnd, hOutcome⟩ := stepCrcCheck_outcome (t := t) raw chk
    rw [hEnd]
    exact .checked rfl (seen.same rfl rfl rfl rfl) bound (by omega) hTicks hOutcome
  | waiting phase => exact absurd hOn (by simp [seqEnabled_of_waits (.inr phase)])
  | timedOut phase | checked phase => exact absurd hOn (by simp [seqEnabled_of_waits (.inl phase)])

/-- A counted tick goes on waiting or brings the poll (R137). -/
theorem Progress.of_tick (h : Progress s steps ticks (view t)) (hWait : t.seqState = seqPollWait) :
    Progress s steps (ticks + 1) (view (tick t)) := by
  cases h with
  | waiting phase seen bound hSteps delayed hTicks =>
    have hPositive : 1 ≤ t.delay.toNat := delayed
    have hCount : ticks + t.delay.toNat = 10 * (_ + 1) := hTicks
    by_cases hLast : t.delay = 1
    · have hOne : t.delay.toNat = 1 := by rw [hLast]; rfl
      rw [tick_last hWait hLast]
      refine .due rfl (seen.same rfl rfl rfl rfl) bound hSteps (by omega)
    · have hLess : (t.delay - 1).toNat + 1 = t.delay.toNat ∧ 1 ≤ (t.delay - 1).toNat := by bv_omega
      rw [tick_counts hWait hLast]
      refine .waiting phase (seen.same rfl rfl rfl rfl) bound hSteps hLess.2 ?_
      change ticks + 1 + (t.delay - 1).toNat = _
      omega
  | accepted phase | sent phase | due phase | found phase | latched phase | timedOut phase | checked phase =>
    exact absurd (phase.symm.trans hWait) (by decide)

/-! ### The run -/

/-- Every step of a running measurement but a reset keeps the observation, with its steps and ticks counted: the
Sequencer's and the tick's by their own lemmas, and nothing else touches the measurement (R145). -/
theorem Progress.of_step (h : Progress s steps ticks (view t)) (hBusy : t.seqState ≠ seqIdle) (hu : step t = .next u)
    (hr : t.nextEvent ≠ .reset) :
    Progress s (steps + t.takesSeqStep.toNat) (ticks + t.takesCountedTick.toNat) (view u) := by
  rw [← view_takeEvent] at h
  have hBusy' : t.takeEvent.seqState ≠ seqIdle := by simpa using hBusy
  obtain ⟨he, hHost⟩ | ⟨he, hSeq⟩ | ⟨he, rfl⟩ | ⟨he, -⟩ | ⟨r, he, rfl⟩ := step_cases hu
  · rw [← hostStep_view hHost hBusy'] at h
    simpa [State.takesSeqStep, State.takesCountedTick, he] using h
  · cases hOn : t.seqEnabled with
    | true =>
      have hNext := h.of_sequencer ((seqEnabled_takeEvent t).trans hOn) hSeq
      simpa [State.takesSeqStep, State.takesCountedTick, he, hOn] using hNext
    | false =>
      rw [sequencerStep_disabled ((seqEnabled_takeEvent t).trans hOn) hSeq]
      simpa [State.takesSeqStep, State.takesCountedTick, he, hOn] using h
  · by_cases hWait : t.seqState = seqPollWait
    · have hNext := h.of_tick (t.takeEvent_seqState.trans hWait)
      simpa [State.takesSeqStep, State.takesCountedTick, he, hWait] using hNext
    · rw [tick_elsewhere (by simpa using hWait)]
      simpa [State.takesSeqStep, State.takesCountedTick, he, hWait] using h
  · exact absurd he hr
  · simpa [State.takesSeqStep, State.takesCountedTick, he] using h

/-- A run of a measurement shows its progress, unless it ended with a reset. -/
theorem measuring_progress {cut : Bool} (h : Measuring s steps ticks cut t) (hStart : Progress s 0 0 (view s)) :
    (cut = true ∧ ∃ v, t = resetBlock v) ∨ (cut = false ∧ Progress s steps ticks (view t)) := by
  induction h with
  | start => exact .inr ⟨rfl, hStart⟩
  | @more steps ticks cut t u _ hBusy hStep ih =>
    rw [busy_iff] at hBusy
    obtain ⟨-, v, rfl⟩ | ⟨-, hProgress⟩ := ih
    · exact absurd (resetBlock_seqState v) hBusy
    · by_cases hReset : t.nextEvent = .reset
      · exact .inl ⟨decide_eq_true hReset, _, Host.Outcome.next.inj (hStep.symm.trans (step_of_reset hReset))⟩
      · exact .inr ⟨decide_eq_false hReset, hProgress.of_step hBusy hStep hReset⟩

/-- A measurement that was just accepted (R131). -/
theorem progress_accepted (hInv : s.Inv) (hState : s.seqState = seqTrigger) : Progress s 0 0 (view s) := by
  have hAttempt : s.attempt = 0 := hInv.attemptFresh (.inl hState)
  exact .accepted hState ⟨rfl, congrArg BitVec.toNat hAttempt, nofun, (Bool.or_false _).symm,
    (List.append_nil _).symm⟩ rfl rfl

/-- Settles O48: a run without a reset that has come to IDLE is at one of the two ends of its progress. -/
theorem measurementTraceAndOutcome : Obligations.MeasurementTraceAndOutcome := by
  unfold Obligations.MeasurementTraceAndOutcome
  intro s t steps ticks hInv ⟨hAccepted, hRuns, hEnded⟩
  obtain ⟨hCut, -⟩ | ⟨-, hProgress⟩ := measuring_progress hRuns (progress_accepted hInv hAccepted)
  · cases hCut
  cases hProgress with
  | timedOut _ seen tenth hSteps hTicks code result =>
    refine ⟨seen.kind, _, seen.noFrame, seen.attempt, .inl ⟨tenth, code, result, hSteps, hTicks, ?_⟩⟩
    exact seen.busTrace.trans (List.append_assoc ..).symm
  | checked _ seen bound hSteps hTicks outcome =>
    refine ⟨seen.kind, _, seen.noFrame, seen.attempt, .inr ⟨_, _, _, _ + 1, (Nat.add_sub_cancel ..).symm, by omega,
      by omega, by omega, hTicks, ?_, outcome⟩⟩
    rw [show t.busTrace = _ from seen.busTrace]
    simp only [polledTrace, frameTrace, List.append_assoc]
  | accepted phase | sent phase | waiting phase | due phase | found phase | latched phase =>
    exact absurd (phase.symm.trans hEnded) (by decide)

end Sys2Proof.Proofs
end

section
/-! PROOFS. The counts of a measurement's Sequencer steps and ticks (70_reset_and_hazards.md R221), read off its
progress: a reset adds to neither, and while BUSY there is no outcome yet (R187). -/

namespace Sys2Proof.Proofs

open Sys2Proof.Machine

variable {s t : State} {m : MeasurementView} {steps ticks : Nat} {cut : Bool}

/-! ### Only the last step writes the outcome (R187) -/

/-- A Sequencer step that does not go to IDLE leaves the result fields as they are: those that write them, the tenth
failed poll and CRC_CHECK, go there (R139, R141). -/
theorem sequencerStep_result (h : sequencerStep s = .next t) (ht : t.seqState ≠ seqIdle) :
    t.result = s.result ∧ t.resultCode = s.resultCode := by
  obtain ⟨-, rfl⟩ | ⟨-, rfl⟩ | ⟨-, rfl⟩ | ⟨-, rfl⟩ | ⟨-, rfl⟩ | ⟨-, rfl⟩ := sequencerStep_cases h
  · exact ⟨rfl, rfl⟩
  · exact ⟨rfl, rfl⟩
  · exact ⟨rfl, rfl⟩
  · by_cases hFound : s.nextAvailable = readCount
    · simp [stepPollReq_found hFound]
    · by_cases hTenth : s.attempt = 9
      · rw [stepPollReq_timeout rfl hFound hTenth] at ht
        exact absurd rfl ht
      · simp [stepPollReq_again rfl hFound hTenth, countedPoll]
  · simp [stepDataReady_eq]
  · obtain ⟨code, value, hEnd, -⟩ := stepCrcCheck_outcome (t := s) rfl rfl
    rw [hEnd] at ht
    exact absurd rfl ht

theorem tick_result (s : State) : (tick s).result = s.result ∧ (tick s).resultCode = s.resultCode := by
  obtain ⟨-, h⟩ | ⟨-, -, h⟩ | ⟨-, -, h⟩ := tick_cases (s := s) <;> simp [h]

/-- A step of any agent that starts and ends BUSY leaves the result fields as they are (R187). -/
theorem step_result_of_busy (h : step s = .next t) (hs : s.seqState ≠ seqIdle) (ht : t.seqState ≠ seqIdle) :
    t.result = s.result ∧ t.resultCode = s.resultCode := by
  obtain ⟨-, hHost⟩ | ⟨-, hSeq⟩ | ⟨-, rfl⟩ | ⟨-, rfl⟩ | ⟨r, -, rfl⟩ := step_cases h
  · have hView : view t = view s := (hostStep_view hHost (by simpa using hs)).trans (view_takeEvent s)
    exact ⟨congrArg MeasurementView.result hView, congrArg MeasurementView.resultCode hView⟩
  · simpa using sequencerStep_result hSeq ht
  · simpa using tick_result s.takeEvent
  · exact absurd (resetBlock_seqState _) ht
  · simp

/-- A measurement that has not ended reports what it reported at its start. -/
theorem measuring_resultCode_of_busy (h : Measuring s steps ticks cut t) (ht : t.seqState ≠ seqIdle) :
    t.resultCode = s.resultCode := by
  induction h with
  | start => rfl
  | more _ hBusy hStep ih =>
    rw [busy_iff] at hBusy
    exact (step_result_of_busy hStep hBusy ht).2.trans (ih hBusy)

/-! ### The counts -/

/-- In every phase the counts are within the bounds of R221. -/
theorem Progress.bounds (h : Progress s steps ticks m) : steps ≤ 14 ∧ ticks ≤ 100 := by
  cases h <;> omega

/-- A reset counts as neither (R211). -/
theorem takes_of_reset (h : t.nextEvent = .reset) : t.takesSeqStep = false ∧ t.takesCountedTick = false := by
  simp [State.takesSeqStep, State.takesCountedTick, h]

/-- The bounds hold of every run, also of one that a reset cuts: its counts are those of the state before. -/
theorem measuring_bounds (h : Measuring s steps ticks cut t) (hStart : Progress s 0 0 (view s)) :
    steps ≤ 14 ∧ ticks ≤ 100 := by
  induction h with
  | start => exact hStart.bounds
  | @more _ _ _ t _ hRun hBusy hStep ih =>
    obtain ⟨hCut, -⟩ | ⟨-, hProgress⟩ := measuring_progress (hRun.more hBusy hStep) hStart
    · have hReset : t.nextEvent = .reset := of_decide_eq_true hCut
      simpa [takes_of_reset hReset] using ih
    · exact hProgress.bounds

/-- The exact counts at each of the two ends (R147). -/
theorem Progress.counts_at_end (h : Progress s steps ticks m) (hEnd : m.seqState = seqIdle) :
    (m.resultCode = .timeout → steps = 12 ∧ ticks = 100)
      ∧ (m.resultCode = .ok ∨ m.resultCode = .crcFail →
        steps = 5 + m.attempt.toNat ∧ ticks = 10 * (m.attempt.toNat + 1)) := by
  cases h with
  | timedOut _ _ _ hSteps hTicks code =>
    exact ⟨fun _ => ⟨hSteps, hTicks⟩, fun hCode => by simp [code] at hCode⟩
  | checked _ seen _ hSteps hTicks outcome =>
    rw [seen.attempt]
    refine ⟨fun hCode => ?_, fun _ => ⟨hSteps, hTicks⟩⟩
    obtain ⟨-, hOk, -⟩ | ⟨-, hFail, -⟩ := outcome
    · cases hOk.symm.trans hCode
    · cases hFail.symm.trans hCode
  | accepted phase | sent phase | waiting phase | due phase | found phase | latched phase =>
    exact absurd (phase.symm.trans hEnd) (by decide)

/-- A run from an accept that has an outcome has come to its end, and not by a reset (R187, R211). -/
theorem measuring_ended_of_outcome (hInv : s.Inv) (hState : s.seqState = seqTrigger)
    (h : Measuring s steps ticks cut t) (hCode : t.resultCode ≠ .none) :
    t.seqState = seqIdle ∧ Progress s steps ticks (view t) := by
  have hNone : s.resultCode = .none := hInv.busyNoResult (busy_iff.mpr (by simp [hState]))
  obtain ⟨-, v, rfl⟩ | ⟨-, hProgress⟩ := measuring_progress h (progress_accepted hInv hState)
  · exact absurd rfl hCode
  · refine ⟨?_, hProgress⟩
    by_contra hBusy
    exact hCode ((measuring_resultCode_of_busy h hBusy).trans hNone)

/-- Settles O47: the bounds hold in every phase; a run with an outcome is at one of the two ends of its progress. -/
theorem measurementStepAndTickCounts : Obligations.MeasurementStepAndTickCounts := by
  unfold Obligations.MeasurementStepAndTickCounts
  intro s t steps ticks cut hInv hState hRun
  obtain ⟨hSteps, hTicks⟩ := measuring_bounds hRun (progress_accepted hInv hState)
  refine ⟨hSteps, hTicks, fun hCode => ?_, fun hCode => ?_⟩
  · obtain ⟨hEnd, hProgress⟩ := measuring_ended_of_outcome hInv hState hRun (by simp [hCode])
    exact (hProgress.counts_at_end hEnd).1 hCode
  · obtain ⟨hEnd, hProgress⟩ := measuring_ended_of_outcome hInv hState hRun (by obtain h | h := hCode <;> simp [h])
    exact (hProgress.counts_at_end hEnd).2 hCode

end Sys2Proof.Proofs
end

section
/-! PROOFS. The encoder and the decoder against each other (30_encoding.md R81, R83, R84, R91, R94). -/

namespace Sys2Proof.Proofs

/-! ### Encode, then decode -/

/-- Settles O1: the fields of each constructor's word, read back; a write of CMD by its reserved value. -/
theorem decodeOfEncodeIsIdentity : Obligations.DecodeOfEncodeIsIdentity := by
  unfold Obligations.DecodeOfEncodeIsIdentity
  intro i hWf
  cases i with
  | rd reg =>
    rw [encode, decode_htwOf, Reg.ofIndex_index]
    rfl
  | wr reg data =>
    rw [encode, decode_htwOf, Reg.ofIndex_index, if_pos rfl]
    by_cases hReg : reg = .cmd
    · subst hReg
      exact decodeWrite_reserved (of_decide_eq_true hWf)
    · exact decodeWrite_of_ne_cmd hReg data
  | nop => exact decode_write 0 0x0000
  | verify => exact decode_write 0 0x0001
  | measRh => exact decode_write 0 0x0002
  | measT => exact decode_write 0 0x0003

/-! ### Decode, then encode -/

/-- A mask that keeps WE and IDX acts on DATA alone. -/
theorem htwOf_and (we : Bool) (idx : BitVec 3) (data mask : Data) :
    htwOf we idx data &&& (0xF#4 ++ mask) = htwOf we idx (data &&& mask) := by
  have hHead : (BitVec.ofBool we ++ idx) &&& 0xF#4 = BitVec.ofBool we ++ idx := BitVec.and_allOnes
  rw [htwOf, BitVec.and_append, hHead]
  rfl

/-- A read's word is kept but for DATA (R81). -/
theorem encode_rd (idx : BitVec 3) (data : Data) :
    encode (.rd (Reg.ofIndex idx)) = htwOf false idx data &&& 0xF0000 := by
  have hMask : htwOf false idx data &&& 0xF0000 = htwOf false idx (data &&& 0#16) := htwOf_and false idx data 0#16
  rw [hMask, BitVec.and_zero, encode, Reg.index_ofIndex]
  rfl

/-- The word of a CMD write with a defined value is kept but for DATA[15:8] (R52, R83). -/
theorem encode_decodeWrite_command {data : Data} (h : data.extractLsb' 0 8 ≤ 3#8) :
    encode (decodeWrite .cmd data) = htwOf true 0 data &&& 0xF00FF := by
  obtain ⟨high, op, rfl⟩ : ∃ high op : Byte, data = high ++ op :=
    ⟨_, _, (BitVec.extractLsb'_append_extractLsb' (w := 8) (len := 8)).symm⟩
  rw [BitVec.extractLsb'_append_eq_right] at h
  have hMask : htwOf true 0 (high ++ op) &&& 0xF00FF = htwOf true 0 (0x00#8 ++ op) := by
    have hLow : (high ++ op) &&& (0x00#8 ++ 0xFF#8) = 0x00#8 ++ op := by
      rw [BitVec.and_append, BitVec.and_zero]
      exact congrArg _ BitVec.and_allOnes
    exact (htwOf_and true 0 _ _).trans (congrArg _ hLow)
  rw [hMask]
  obtain rfl | rfl | rfl | rfl : op = 0 ∨ op = 1 ∨ op = 2 ∨ op = 3 := by bv_omega
  all_goals rw [decodeWrite_command BitVec.extractLsb'_append_eq_right rfl]; rfl

/-- Every other write is its own reading (R84, R91). -/
theorem decodeWrite_of_not_command {reg : Reg} {data : Data} (h : ¬(reg = .cmd ∧ data.extractLsb' 0 8 ≤ 3#8)) :
    decodeWrite reg data = .wr reg data := by
  by_cases hReg : reg = .cmd
  · subst hReg
    have hOp : ¬data.extractLsb' 0 8 ≤ 3#8 := fun hOp => h ⟨rfl, hOp⟩
    rw [← BitVec.setWidth_eq_extractLsb' (by decide)] at hOp
    exact decodeWrite_reserved (by bv_omega)
  · exact decodeWrite_of_ne_cmd hReg data

/-- What is kept of a word with given fields. -/
theorem encode_decode_htwOf (we : Bool) (idx : BitVec 3) (data : Data) : encode (decode (htwOf we idx data)) =
    if we = false then htwOf we idx data &&& 0xF0000
    else if idx = 0 ∧ data.extractLsb' 0 8 ≤ 3#8 then htwOf we idx data &&& 0xF00FF
    else htwOf we idx data := by
  rw [decode_htwOf]
  cases we with
  | false => exact encode_rd idx data
  | true =>
    rw [if_pos rfl, if_neg (by decide)]
    split
    next hCommand =>
      obtain ⟨rfl, hOp⟩ := hCommand
      exact encode_decodeWrite_command hOp
    next hOther =>
      have hReg : ¬(Reg.ofIndex idx = .cmd ∧ data.extractLsb' 0 8 ≤ 3#8) := fun ⟨hCmd, hOp⟩ =>
        hOther ⟨not_not.mp fun hne => ofIndex_ne_cmd hne hCmd, hOp⟩
      rw [decodeWrite_of_not_command hReg, encode, Reg.index_ofIndex]

/-- Settles O2: a word is made of its fields, and the decoder answers well-formed instructions. -/
theorem encodeOfDecodeKeepsMeantBits : Obligations.EncodeOfDecodeKeepsMeantBits := by
  unfold Obligations.EncodeOfDecodeKeepsMeantBits
  intro w
  have hKept := encode_decode_htwOf (htwWe w) (htwIdx w) (htwData w)
  have hOp : (htwData w).extractLsb' 0 8 = w.extractLsb' 0 8 := BitVec.extractLsb'_extractLsb'_of_le (by decide)
  rw [htwOf_fields, hOp] at hKept
  exact ⟨decode_wf w, hKept⟩

end Sys2Proof.Proofs
end

section
/-! PROOFS. What a step of each agent neither reads nor writes: the rest of the state can be exchanged before it or
after it (10_state.md R33; 20_memory.md R63; 40_crc_verifier.md R106). -/

namespace Sys2Proof.Proofs

open Sys2Proof.Machine

variable {s t : State} {e : Event}

/-! ### The Sequencer's and the clock's part -/

/-- `u` with everything of `s` that the Sequencer and the clock read or write, but for the latches SEQ_RAW and
SEQ_CHK. -/
def seqOver (u s : State) : State := { u with
  seqState := s.seqState, kind := s.kind, resultCode := s.resultCode, adapterErr := s.adapterErr, result := s.result,
  attempt := s.attempt, delay := s.delay, availAnswers := s.availAnswers, byteAnswers := s.byteAnswers,
  busTrace := s.busTrace, freeIndex := s.freeIndex }

@[simp] theorem seqOver_availAnswers (u s : State) : (seqOver u s).availAnswers = s.availAnswers := rfl
@[simp] theorem seqOver_byteAnswers (u s : State) : (seqOver u s).byteAnswers = s.byteAnswers := rfl

theorem takeAvailable_seqOver (u s : State) : (seqOver u s).takeAvailable = seqOver u s.takeAvailable := by
  unfold State.takeAvailable
  rw [seqOver_availAnswers]
  split <;> rfl

theorem busRead_seqOver (u s : State) : busRead (seqOver u s) = seqOver u (busRead s) := by
  unfold busRead State.takeByte
  rw [seqOver_byteAnswers]
  split <;> rfl

theorem countedPoll_seqOver (n : Byte) (u s : State) :
    countedPoll n (seqOver u s) = seqOver u (countedPoll n s) := by
  rw [countedPoll, takeAvailable_seqOver]
  rfl

theorem stepTrigger_seqOver (u s : State) : stepTrigger (seqOver u s) = seqOver u (stepTrigger s) := rfl

theorem stepCmdSent_seqOver (u s : State) : stepCmdSent (seqOver u s) = seqOver u (stepCmdSent s) := rfl

theorem stepPollReq_seqOver (u s : State) : stepPollReq (seqOver u s) = seqOver u (stepPollReq s) := by
  by_cases hFound : s.nextAvailable = readCount
  · rw [stepPollReq_found hFound, stepPollReq_found (s := seqOver u s) hFound, takeAvailable_seqOver]
    rfl
  · rw [stepPollReq_failed rfl hFound, stepPollReq_failed (s := seqOver u s) rfl hFound, countedPoll_seqOver,
      apply_ite (seqOver u)]
    rfl

/-- DATA_READY writes both latches, so it leaves nothing of the old ones (R33). -/
theorem stepDataReady_seqOver (u s : State) : stepDataReady (seqOver u s) =
    latchFrame (stepDataReady s).seqRaw (stepDataReady s).seqChk (seqOver u (stepDataReady s)) := by
  simp only [stepDataReady, busRead_seqOver]
  rfl

/-- The tick counts the same over any rest. -/
theorem tick_seqOver (u s : State) : tick (seqOver u s) = seqOver u (tick s) := by
  unfold tick
  rw [apply_ite (seqOver u), apply_ite (seqOver u)]
  rfl

/-- It writes nothing else. -/
theorem tick_eq_seqOver (s : State) : tick s = seqOver s (tick s) := tick_seqOver s s

/-- The latches of `u` are those of `s`. -/
def SameLatches (u s : State) : Prop := u.seqRaw = s.seqRaw ∧ u.seqChk = s.seqChk

/-- CRC_CHECK tells two latched frames apart only when the verifier passes one of them (R141). -/
def Indistinct (u s : State) : Prop :=
  SameLatches u s ∨ (crc8vPass u.seqRaw u.seqChk = false ∧ crc8vPass s.seqRaw s.seqChk = false)

theorem stepCrcCheck_seqOver {u : State} (h : Indistinct u s) :
    stepCrcCheck (seqOver u s) = seqOver u (stepCrcCheck s) := by
  obtain ⟨hRaw, hChk⟩ | ⟨hFail, hFail'⟩ := h
  · have hRaw' : (seqOver u s).seqRaw = s.seqRaw := hRaw
    have hChk' : (seqOver u s).seqChk = s.seqChk := hChk
    unfold stepCrcCheck
    rw [hRaw', hChk', apply_ite (seqOver u)]
    rfl
  · rw [stepCrcCheck_fail hFail', stepCrcCheck_fail (s := seqOver u s) hFail]
    rfl

/-- `t'` is `t` over `u` instead of over `s`, but for the latches; these are `t`'s own where the step from `s` wrote
them or found its own. -/
def OverRest (u s t t' : State) : Prop :=
  ∃ raw chk, t' = latchFrame raw chk (seqOver u t)
    ∧ (SameLatches u s ∨ s.seqState = seqDataReady → raw = t.seqRaw ∧ chk = t.seqChk)

/-- A step of another SEQ_STATE than DATA_READY that does the same over any rest does not write the latches. -/
theorem overRest_of_commutes {f : State → State} {u : State} (hs : s.seqState ≠ seqDataReady)
    (hSelf : f (seqOver s s) = seqOver s (f s)) (hOver : f (seqOver u s) = seqOver u (f s)) :
    OverRest u s (f s) (f (seqOver u s)) := by
  have hFrame : f s = seqOver s (f s) := hSelf
  refine ⟨u.seqRaw, u.seqChk, hOver, ?_⟩
  rintro (⟨hRaw, hChk⟩ | hReady)
  · rw [hFrame]
    exact ⟨hRaw, hChk⟩
  · exact absurd hReady hs

/-- The Sequencer does the same over any rest, as long as CRC_CHECK cannot tell the frames apart. -/
theorem sequencerStep_seqOver {u : State} (h : sequencerStep s = .next t)
    (hCheck : s.seqState = seqCrcCheck → Indistinct u s) :
    ∃ t', sequencerStep (seqOver u s) = .next t' ∧ OverRest u s t t' := by
  obtain ⟨hs, hSame⟩ | ⟨hs, rfl⟩ | ⟨hs, rfl⟩ | ⟨hs, rfl⟩ | ⟨hs, rfl⟩ | ⟨hs, rfl⟩ := sequencerStep_cases h
  · subst hSame
    have hStep : sequencerStep (seqOver u t) = .next (seqOver u t) := by
      obtain hs | hs := hs
      · exact sequencerStep_idle (s := seqOver u t) hs
      · exact sequencerStep_pollWait (s := seqOver u t) hs
    exact ⟨_, hStep, overRest_of_commutes (f := id) (by obtain hs | hs := hs <;> simp [hs]) rfl rfl⟩
  · exact ⟨_, sequencerStep_trigger (s := seqOver u s) hs,
      overRest_of_commutes (by simp [hs]) (stepTrigger_seqOver s s) (stepTrigger_seqOver u s)⟩
  · exact ⟨_, sequencerStep_cmdSent (s := seqOver u s) hs,
      overRest_of_commutes (by simp [hs]) (stepCmdSent_seqOver s s) (stepCmdSent_seqOver u s)⟩
  · exact ⟨_, sequencerStep_pollReq (s := seqOver u s) hs,
      overRest_of_commutes (by simp [hs]) (stepPollReq_seqOver s s) (stepPollReq_seqOver u s)⟩
  · exact ⟨_, sequencerStep_dataReady (s := seqOver u s) hs, _, _, stepDataReady_seqOver u s, fun _ => ⟨rfl, rfl⟩⟩
  · exact ⟨_, sequencerStep_crcCheck (s := seqOver u s) hs, overRest_of_commutes (by simp [hs])
      (stepCrcCheck_seqOver (.inl ⟨rfl, rfl⟩)) (stepCrcCheck_seqOver (hCheck hs))⟩

/-- `u` with everything of `s` that the Sequencer and the clock read or write. -/
def overlay (u s : State) : State := latchFrame s.seqRaw s.seqChk (seqOver u s)

/-- With its own latches the Sequencer does the same over any rest. -/
theorem sequencerStep_overlay (u : State) (h : sequencerStep s = .next t) :
    sequencerStep (overlay u s) = .next (overlay u t) := by
  have hSame : SameLatches (overlay u s) s := ⟨rfl, rfl⟩
  obtain ⟨t', ht', raw, chk, rfl, hLatches⟩ := sequencerStep_seqOver (u := overlay u s) h fun _ => .inl hSame
  obtain ⟨rfl, rfl⟩ := hLatches (.inl hSame)
  exact ht'

theorem tick_overlay (u s : State) : tick (overlay u s) = overlay u (tick s) := by
  rw [tick_eq_seqOver s]
  exact tick_seqOver (overlay u s) s

theorem eventStep_overlay (u : State) (he : e = .sequencer ∨ e = .tick) (h : eventStep e s = .next t) :
    eventStep e (overlay u s) = .next (overlay u t) := by
  obtain rfl | rfl := he
  · exact sequencerStep_overlay u h
  · cases h
    exact congrArg _ (tick_overlay u s)

/-- The rest stays as it is. -/
theorem eventStep_frame (he : e = .sequencer ∨ e = .tick) (h : eventStep e s = .next t) : overlay s t = t :=
  Host.Outcome.next.inj ((eventStep_overlay s he h).symm.trans h)

/-! ### VERIFY beside the Sequencer (R106, R141) -/

/-- Settles O40: VERIFY writes the rest alone, and reads of it what the Sequencer and the clock leave as it is. -/
theorem verifyCommutesWithSequencer : Obligations.VerifyCommutesWithSequencer := by
  unfold Obligations.VerifyCommutesWithSequencer
  intro e s t he h
  have hOver : eventStep e (verify s) = .next (overlay (verify s) t) := eventStep_overlay (verify s) he h
  have hVerify : verify t = overlay (verify s) t := by
    rw [← eventStep_frame he h]
    rfl
  exact ⟨_, _, rfl, rfl, hOver.trans (congrArg _ hVerify.symm)⟩

/-! ### What the Host cannot see -/

/-- `s` with another rest of the schedule and another latched frame. -/
def withHidden (events : List Event) (raw : Data) (chk : Byte) (s : State) : State :=
  latchFrame raw chk (setSchedule events s)

section
variable (events : List Event) (raw : Data) (chk : Byte)

@[simp] theorem withHidden_hostLast (s : State) : (withHidden events raw chk s).hostLast = s.hostLast := rfl

theorem measAccept_withHidden {k : Kind} (h : measAccept k s = .next t) :
    measAccept k (withHidden events raw chk s) = .next (withHidden events raw chk t) := by
  cases hBoot : s.boot.met with
  | false => cases (measAccept_unmet hBoot).symm.trans h
  | true =>
    by_cases hs : s.seqState = seqIdle
    · cases (measAccept_idle hBoot hs).symm.trans h
      exact measAccept_idle (s := withHidden events raw chk s) hBoot hs
    · cases (measAccept_busy hBoot hs).symm.trans h
      exact measAccept_busy (s := withHidden events raw chk s) hBoot hs

theorem executeCommand_withHidden {op : Byte} (h : executeCommand op s = .next t) :
    executeCommand op (withHidden events raw chk s) = .next (withHidden events raw chk t) := by
  unfold executeCommand at h ⊢
  split_ifs at h ⊢
  · cases h; rfl
  · cases h; rfl
  · exact measAccept_withHidden events raw chk h
  · exact measAccept_withHidden events raw chk h
  · cases h; rfl

theorem exec_withHidden {i : Instr} (h : exec i s = .next t) :
    exec i (withHidden events raw chk s) = .next (withHidden events raw chk t) := by
  cases i with
  | rd reg => cases h; cases reg <;> rfl
  | wr reg data =>
    cases reg with
    | cmd => exact executeCommand_withHidden events raw chk h
    | _ => cases h; rfl
  | measRh => exact measAccept_withHidden events raw chk h
  | measT => exact measAccept_withHidden events raw chk h
  | _ => cases h; rfl

theorem hostBranch_withHidden (onZero : Bool) (target : Nat) (mask : Data) (s : State) :
    hostBranch onZero target mask (withHidden events raw chk s)
      = withHidden events raw chk (hostBranch onZero target mask s) := by
  have hTake : (withHidden events raw chk s).takeBranchValue = withHidden events raw chk s.takeBranchValue := by
    unfold State.takeBranchValue
    rw [withHidden_hostLast]
    split <;> rfl
  unfold hostBranch
  rw [hTake]
  rfl

theorem hostStep_withHidden (h : hostStep s = .next t) :
    hostStep (withHidden events raw chk s) = .next (withHidden events raw chk t) := by
  have hSame : (withHidden events raw chk s).hostProgram[(withHidden events raw chk s).hostPc]?
      = s.hostProgram[s.hostPc]? := rfl
  unfold hostStep at h ⊢
  rw [hSame]
  cases hOp : s.hostProgram[s.hostPc]? with
  | none =>
    rw [hOp] at h
    cases h
    rfl
  | some op =>
    rw [hOp] at h
    cases op with
    | txn w =>
      cases hExec : exec (decode w) s with
      | next u =>
        simp only [hExec, passOp] at h
        cases h
        simp only [exec_withHidden events raw chk hExec, passOp]
        rfl
      | fault r | refused r =>
        simp only [hExec, passOp] at h
        cases h
    | bz target mask | bnz target mask =>
      cases h
      exact congrArg _ (hostBranch_withHidden ..)

theorem resetBlock_withHidden (s : State) :
    resetBlock (withHidden events raw chk s) = setSchedule events (resetBlock s) := by
  unfold resetBlock busAfterReset
  change useFree (resetRegisters (if s.busy then _ else _)) = _
  split <;> rfl

/-- No Host step writes the schedule or the latches, for it does the same with any. -/
theorem hostStep_sameLatches (h : hostStep s = .next t) : SameLatches t s := by
  have hFrame : t = withHidden s.schedule s.seqRaw s.seqChk t :=
    Host.Outcome.next.inj (h.symm.trans (hostStep_withHidden s.schedule s.seqRaw s.seqChk h))
  rw [hFrame]
  exact ⟨rfl, rfl⟩

theorem tick_withHidden (s : State) : tick (withHidden events raw chk s) = withHidden events raw chk (tick s) := by
  rw [tick_eq_seqOver s]
  exact tick_seqOver (withHidden events raw chk s) s

theorem tick_sameLatches (s : State) : SameLatches (tick s) s := by
  rw [tick_eq_seqOver s]
  exact ⟨rfl, rfl⟩

variable {events raw chk}

/-- An event that keeps the latches leaves its own where it found its own. -/
theorem own_of_sameLatches (h : SameLatches t s) (he : e ≠ .sequencer) :
    SameLatches (withHidden events raw chk s) s ∨ (e = .sequencer ∧ s.seqState = seqDataReady) →
      raw = t.seqRaw ∧ chk = t.seqChk := by
  rintro (⟨hRaw, hChk⟩ | ⟨he', -⟩)
  · exact ⟨hRaw.trans h.1.symm, hChk.trans h.2.symm⟩
  · exact absurd he' he

/-- Every event does the same with another rest of the schedule and another latched frame, as long as CRC_CHECK cannot
tell the frames apart; it leaves its own latches where it wrote them or found its own (R33, R63). -/
theorem eventStep_withHidden (h : eventStep e s = .next t)
    (hCheck : s.seqState = seqCrcCheck → Indistinct (withHidden events raw chk s) s) :
    ∃ raw' chk', eventStep e (withHidden events raw chk s) = .next (withHidden events raw' chk' t)
      ∧ (SameLatches (withHidden events raw chk s) s ∨ (e = .sequencer ∧ s.seqState = seqDataReady) →
        raw' = t.seqRaw ∧ chk' = t.seqChk) := by
  cases e with
  | host =>
    exact ⟨raw, chk, hostStep_withHidden events raw chk h, own_of_sameLatches (hostStep_sameLatches h) nofun⟩
  | sequencer =>
    obtain ⟨t', ht', raw', chk', rfl, hLatches⟩ := sequencerStep_seqOver (u := withHidden events raw chk s) h hCheck
    refine ⟨raw', chk', ht'.trans (congrArg _ ?_), fun hOwn => hLatches (hOwn.imp id And.right)⟩
    rw [← eventStep_frame (.inl rfl) h]
    rfl
  | tick =>
    cases h
    exact ⟨raw, chk, congrArg Host.Outcome.next (tick_withHidden events raw chk s),
      own_of_sameLatches (tick_sameLatches s) nofun⟩
  | reset =>
    cases h
    exact ⟨_, _, congrArg Host.Outcome.next (resetBlock_withHidden events raw chk s), fun _ => ⟨rfl, rfl⟩⟩
  | environment r =>
    cases h
    exact ⟨raw, chk, rfl, own_of_sameLatches ⟨rfl, rfl⟩ nofun⟩

end

/-- The schedule is no input of the event's step (R63). -/
theorem eventStep_setSchedule (events : List Event) (h : eventStep e s = .next t) :
    eventStep e (setSchedule events s) = .next (setSchedule events t) := by
  have hSame : SameLatches (withHidden events s.seqRaw s.seqChk s) s := ⟨rfl, rfl⟩
  obtain ⟨raw, chk, hStep, hLatches⟩ := eventStep_withHidden h fun _ => .inl hSame
  obtain ⟨rfl, rfl⟩ := hLatches (.inl hSame)
  exact hStep

theorem eventStep_schedule (h : eventStep e s = .next t) : t.schedule = s.schedule := by
  have hFrame : t = setSchedule s.schedule t :=
    Host.Outcome.next.inj (h.symm.trans (eventStep_setSchedule s.schedule h))
  rw [hFrame]
  rfl

theorem takeEvent_latchFrame (raw : Data) (chk : Byte) (s : State) :
    (latchFrame raw chk s).takeEvent = latchFrame raw chk s.takeEvent := by
  unfold State.takeEvent
  rw [latchFrame_schedule]
  split <;> rfl

/-- Settles O41: the step of the event on the state without it, with the other frame. -/
theorem latchedFrameIsHidden : Obligations.LatchedFrameIsHidden := by
  unfold Obligations.LatchedFrameIsHidden
  intro s t raw chk h hCheck
  have hFrames : s.takeEvent.seqState = seqCrcCheck →
      Indistinct (withHidden s.takeEvent.schedule raw chk s.takeEvent) s.takeEvent := by
    rw [s.takeEvent_seqState]
    intro hs
    obtain hElse | ⟨hFail, hFail'⟩ := hCheck
    · exact absurd hs hElse
    · exact .inr ⟨hFail', by simpa using hFail⟩
  obtain ⟨raw', chk', hStep, hLatches⟩ := eventStep_withHidden h hFrames
  refine ⟨raw', chk', ?_, fun he hs => hLatches (.inr ⟨he, s.takeEvent_seqState.trans hs⟩)⟩
  change eventStep s.nextEvent (latchFrame raw chk s).takeEvent = .next (latchFrame raw' chk' t)
  rw [takeEvent_latchFrame]
  refine hStep.trans (congrArg _ ?_)
  rw [← eventStep_schedule h]
  rfl

/-! ### Runs along a schedule (R63) -/

/-- Settles O52: event by event, each on the schedule of those that come after it. -/
theorem runsFollowSchedules : Obligations.RunsFollowSchedules := by
  unfold Obligations.RunsFollowSchedules
  intro events states hRun n
  induction n with
  | zero => exact fun rest => rfl
  | succ n ih =>
    intro rest
    have hStep : step (setSchedule (events n :: rest) (states n)) = .next (setSchedule rest (states (n + 1))) := by
      rw [step_of_schedule (s := setSchedule (events n :: rest) (states n)) rfl]
      have hEvent := eventStep_setSchedule rest (hRun n)
      exact hEvent
    have hMore := ih (events n :: rest)
    rw [List.range_succ, List.map_append, List.append_assoc]
    exact (core_run_add n 1 hMore).trans (core_run_succ 0 hStep)

end Sys2Proof.Proofs
end

section
/-! PROOFS. What transactions leave unchanged and the boot requirements (20_memory.md R55; 70_reset_and_hazards.md R214,
R215). -/

namespace Sys2Proof.Proofs

open Sys2Proof.Machine

variable {s t : State} {e : Event}

/-! ### The frame of a transaction -/

/-- Only a read writes the value that the Host has last read (R51). -/
theorem exec_hostLast {i : Instr} (h : exec i s = .next t) (hRead : ∀ reg, i ≠ .rd reg) : t.hostLast = s.hostLast := by
  cases i with
  | rd reg => exact absurd rfl (hRead reg)
  | wr reg data =>
    cases reg with
    | cmd => obtain rfl | rfl | rfl | ⟨k, rfl⟩ := executeCommand_next h <;> rfl
    | _ => cases h; rfl
  | measRh | measT => obtain rfl | rfl := measAccept_next h <;> rfl
  | _ => cases h; rfl

/-- No instruction sets ADAPTER_ERR or meets a boot requirement (R184, R215), nor moves the Host's place: the Host does,
once the block has gone on (R64). -/
theorem effect_frame (h : Effect s t) :
    t.adapterErr = s.adapterErr ∧ t.boot = s.boot ∧ t.hostPc = s.hostPc := by
  obtain rfl | ⟨v, rfl⟩ | ⟨d, rfl⟩ | ⟨d, rfl⟩ | rfl | rfl | ⟨k, -, -, rfl⟩ := h <;> exact ⟨rfl, rfl, rfl⟩

theorem hostStep_frame (h : hostStep s = .next t) : t.adapterErr = s.adapterErr ∧ t.boot = s.boot := by
  obtain ⟨u, hu, pc, n, rfl⟩ := hostStep_effect h
  obtain ⟨hAdapter, hBoot, -⟩ := effect_frame hu
  exact ⟨hAdapter, hBoot⟩

/-- Settles O8: each effect an instruction can have writes none of these. -/
theorem hostTransactionFrame : Obligations.HostTransactionFrame := by
  unfold Obligations.HostTransactionFrame
  refine ⟨fun i s => exec_next, fun i s t h => ?_⟩
  have hLast := exec_hostLast h
  obtain rfl | ⟨v, rfl⟩ | ⟨d, rfl⟩ | ⟨d, rfl⟩ | rfl | rfl | ⟨k, -, -, rfl⟩ := exec_effect h
  all_goals exact ⟨rfl, rfl, rfl, rfl, rfl, rfl, rfl, rfl, rfl, rfl, rfl, rfl, hLast⟩

/-! ### Boot requirements (R214, R215) -/

/-- An instruction that asks for a measurement is a MEAS_* (R83). -/
theorem exec_asking {i : Instr} (h : asksMeasurement i = true) (s : State) : ∃ k, exec i s = measAccept k s := by
  cases i with
  | wr reg data =>
    obtain ⟨rfl, hOp⟩ := of_decide_eq_true h
    change ∃ k, executeCommand (opOf data) s = _
    obtain hOp | hOp := hOp <;> rw [hOp]
    · exact ⟨.humidity, rfl⟩
    · exact ⟨.temperature, rfl⟩
  | measRh => exact ⟨.humidity, rfl⟩
  | measT => exact ⟨.temperature, rfl⟩
  | _ => cases h

theorem boot_unmet_iff (b : Boot) : b.met = false ↔ b.busInitialised = false ∨ b.busExclusive = false
    ∨ b.parametersFixed = false ∨ b.timeSourceStarted = false := by
  simp only [Boot.met, Bool.and_eq_false_iff, or_assoc]

theorem resetBlock_boot (s : State) : (resetBlock s).boot = s.boot := by
  unfold resetBlock busAfterReset
  split <;> rfl

/-- Only the environment's own events meet a requirement. -/
theorem eventStep_boot (h : eventStep e s = .next t) (he : ∀ r, e ≠ .environment r) : t.boot = s.boot := by
  cases e with
  | host => exact (hostStep_frame h).2
  | sequencer => exact (congrArg State.boot (eventStep_frame (.inl rfl) h)).symm
  | tick => exact (congrArg State.boot (eventStep_frame (.inr rfl) h)).symm
  | reset =>
    cases h
    exact resetBlock_boot s
  | environment r => exact absurd rfl (he r)

/-- Settles O18: a MEAS_* is refused or accepted by the requirements, and the environment meets them one by one. -/
theorem measurementNeedsBootRequirements : Obligations.MeasurementNeedsBootRequirements := by
  unfold Obligations.MeasurementNeedsBootRequirements
  refine ⟨fun i s hAsks hUnmet => ?unmet, fun i s _ hBus hExclusive hFixed hStarted => ?met,
    fun i s h => exec_next (.inr h), fun s t he h => (eventStep_boot h he).trans s.takeEvent_boot,
    fun s rest r hSched => ?meets⟩
  case unmet =>
    obtain ⟨k, hExec⟩ := exec_asking hAsks s
    rw [hExec]
    exact measAccept_unmet ((boot_unmet_iff _).mpr hUnmet)
  case met =>
    exact exec_next (.inl (by simp [Boot.met, hBus, hExclusive, hFixed, hStarted]))
  case meets =>
    rw [step_of_schedule hSched]
    cases r <;> rfl

end Sys2Proof.Proofs
end

section
/-! PROOFS. The invariant of the block's registers (10_state.md R22, R24, R27 to R33; 70_reset_and_hazards.md R214): how
a state meets it in IDLE and in each phase of a measurement, and that every event keeps it. -/

namespace Sys2Proof.Proofs

open Sys2Proof.Machine

variable {s t : State} {e : Event}

/-! ### The poll, below the bound -/

/-- What a poll below the bound decides: it finds the frame, waits again, or is the tenth to fail (R138, R139). -/
inductive Polled (s t : State) : Prop where
  | found (state : t.seqState = seqDataReady) (attempt : t.attempt = s.attempt)
      (poll : t.busTrace.getLast? = some (.requestBytes Config.devAddr readCount readCount))
  | again (state : t.seqState = seqPollWait) (delay : t.delay = 10) (bound : s.attempt.toNat ≤ 8)
      (attempt : t.attempt.toNat = s.attempt.toNat + 1)
  | timeout (state : t.seqState = seqIdle) (code : t.resultCode = .timeout) (result : t.result = 998)
      (attempt : t.attempt = 10)

theorem stepPollReq_polled (hBound : s.attempt.toNat ≤ 9) : Polled s (stepPollReq s) := by
  by_cases hFound : s.nextAvailable = readCount
  · rw [stepPollReq_found hFound]
    exact .found rfl s.takeAvailable_attempt (by simp [pollTrace, readCount])
  · by_cases hTenth : s.attempt = 9
    · have hTen : s.attempt + 1 = 10 := by rw [hTenth]; rfl
      rw [stepPollReq_timeout rfl hFound hTenth]
      exact .timeout rfl rfl rfl hTen
    · have hNext : s.attempt.toNat ≤ 8 ∧ (s.attempt + 1).toNat = s.attempt.toNat + 1 := by bv_omega
      rw [stepPollReq_again rfl hFound hTenth]
      exact .again rfl rfl hNext.1 hNext.2

/-! ### How a state meets the invariant -/

/-- The clauses of the invariant on the results of VERIFY (R22, R102, R106). -/
def VerifyLaw (s : State) : Prop :=
  (s.crcValid = true → (s.crcPass = true ↔ s.crcRem = 0x00))
    ∧ (s.crcValid = false → s.crcPass = false ∧ s.crcRem = 0x00)

theorem verifyLaw_of_inv (h : s.Inv) : VerifyLaw s := ⟨h.verified, h.unverified⟩

/-- It stays with the three registers (R141). -/
theorem KeepsHostWritten.verifyLaw (h : KeepsHostWritten s t) (law : VerifyLaw s) : VerifyLaw t := by
  unfold VerifyLaw
  rw [h.crcValid, h.crcPass, h.crcRem]
  exact law

/-- In IDLE the invariant is about the outcome and VERIFY. -/
theorem inv_of_idle (hs : s.seqState = seqIdle) (bound : s.attempt.toNat ≤ 10) (outcome : s.resultLaw)
    (law : VerifyLaw s) : s.Inv where
  named := by rw [hs]; decide
  delayRuns h := by simp [hs] at h
  attemptBound := bound
  attemptFresh h := by simp [hs] at h
  attemptRuns h := absurd hs (busy_iff.mp h)
  busyNoResult h := absurd hs (busy_iff.mp h)
  booted h := absurd hs (busy_iff.mp h)
  outcome := outcome
  verified := law.1
  unverified := law.2
  pollFound h := by simp [hs] at h
  frameLatched h := by simp [hs] at h

/-- What the invariant says of a running measurement, phase by phase of SEQ_STATE (R28, R32, R33, R61). -/
inductive Phase (s : State) : Prop where
  | accepted (hs : s.seqState = seqTrigger) (attempt : s.attempt = 0)
  | sent (hs : s.seqState = seqCmdSent) (attempt : s.attempt = 0)
  | waiting (hs : s.seqState = seqPollWait) (delay : 1 ≤ s.delay.toNat ∧ s.delay.toNat ≤ 10)
  | due (hs : s.seqState = seqPollReq)
  | found (hs : s.seqState = seqDataReady)
      (poll : s.busTrace.getLast? = some (.requestBytes Config.devAddr readCount readCount))
  | latched (hs : s.seqState = seqCrcCheck)
      (frame : ∃ before msb lsb chk, s.busTrace = before ++ [.readByte msb, .readByte lsb, .readByte chk]
        ∧ s.seqRaw = rawOf msb lsb ∧ s.seqChk = chk)

theorem Phase.named (phase : Phase s) : s.seqState.toNat ≤ 6 := by
  cases phase with
  | accepted hs | sent hs | waiting hs | due hs | found hs | latched hs =>
    rw [hs]
    decide

/-- What it says of a running measurement in every phase (R27, R139, R187, R214). -/
structure Underway (s : State) : Prop where
  attempt : s.attempt.toNat ≤ 9
  noResult : s.resultCode = .none
  result : s.result = 0x0000
  booted : s.boot.met = true
  law : VerifyLaw s

/-- While BUSY the invariant is the phase's clause and what holds in every phase. -/
theorem inv_of_phase (phase : Phase s) (h : Underway s) : s.Inv where
  named := phase.named
  delayRuns h := by cases phase <;> simp_all
  attemptBound := h.attempt.trans (by decide)
  attemptFresh h := by cases phase <;> simp_all
  attemptRuns _ := h.attempt
  busyNoResult _ := h.noResult
  booted _ := h.booted
  outcome := by unfold State.resultLaw; rw [h.noResult]; exact h.result
  verified := h.law.1
  unverified := h.law.2
  pollFound h := by cases phase <;> simp_all
  frameLatched h := by cases phase <;> simp_all

theorem underway_of_inv (h : s.Inv) (hs : s.seqState ≠ seqIdle) : Underway s where
  attempt := h.attemptRuns (busy_iff.mpr hs)
  noResult := h.busyNoResult (busy_iff.mpr hs)
  result := by
    have hOutcome := h.outcome
    unfold State.resultLaw at hOutcome
    rw [h.busyNoResult (busy_iff.mpr hs)] at hOutcome
    exact hOutcome
  booted := h.booted (busy_iff.mpr hs)
  law := verifyLaw_of_inv h

/-- A state with the same measurement meets the invariant again, if no boot requirement is lost. -/
theorem inv_of_view (h : s.Inv) (hView : view t = view s) (hBoot : s.boot.met = true → t.boot.met = true)
    (hLaw : VerifyLaw s → VerifyLaw t) : t.Inv := by
  have law : VerifyLaw t := hLaw (verifyLaw_of_inv h)
  obtain ⟨hState, -, hCode, hResult, hAttempt, hDelay, hRaw, hChk, -, hTrace⟩ := view_eq_iff.mp hView
  have hBusy : t.busy = s.busy := by rw [State.busy, hState, State.busy]
  constructor
  case named => exact hState ▸ h.named
  case delayRuns => exact hState ▸ hDelay ▸ h.delayRuns
  case attemptBound => exact hAttempt ▸ h.attemptBound
  case attemptFresh => exact hState ▸ hAttempt ▸ h.attemptFresh
  case attemptRuns => exact hBusy ▸ hAttempt ▸ h.attemptRuns
  case busyNoResult => exact hBusy ▸ hCode ▸ h.busyNoResult
  case booted => exact fun hb => hBoot (h.booted (hBusy ▸ hb))
  case outcome =>
    unfold State.resultLaw
    rw [hCode, hResult, hAttempt]
    exact h.outcome
  case verified => exact law.1
  case unverified => exact law.2
  case pollFound => exact hState ▸ hTrace ▸ h.pollFound
  case frameLatched => exact hState ▸ hTrace ▸ hRaw ▸ hChk ▸ h.frameLatched

/-! ### The Sequencer and the clock -/

/-- A Sequencer step that does not go to IDLE leaves a measurement underway, if ATTEMPT stays below the bound. -/
theorem underway_of_sequencer (h : s.Inv) (hs : s.seqState ≠ seqIdle) (hStep : sequencerStep s = .next t)
    (ht : t.seqState ≠ seqIdle) (hAttempt : t.attempt.toNat ≤ 9) : Underway t := by
  obtain ⟨-, hNoResult, hResult, hBooted, law⟩ := underway_of_inv h hs
  obtain ⟨hResult', hCode'⟩ := sequencerStep_result hStep ht
  have hBoot : t.boot = s.boot := eventStep_boot (e := .sequencer) hStep nofun
  exact ⟨hAttempt, hCode'.trans hNoResult, hResult'.trans hResult, hBoot ▸ hBooted,
    (sequencerStep_keepsHostWritten hStep).verifyLaw law⟩

/-- The bits of an OK result that tell it from a failure (R27, R142). -/
theorem cleaned_low (raw : Data) : (cleaned raw).getLsbD 0 = false ∧ (cleaned raw).getLsbD 1 = false := by
  rw [cleaned_eq_append, BitVec.getLsbD_append, BitVec.getLsbD_append]
  simp

/-- A Sequencer step leads to the next phase or to the end of the measurement, with a lawful outcome (R27, R28, R139,
R141). -/
theorem sequencerStep_inv (h : s.Inv) (hStep : sequencerStep s = .next t) : t.Inv := by
  have law : VerifyLaw t := (sequencerStep_keepsHostWritten hStep).verifyLaw (verifyLaw_of_inv h)
  by_cases hs : s.seqState = seqIdle
  · cases (sequencerStep_idle hs).symm.trans hStep
    exact h
  have hUnderway := underway_of_sequencer h hs hStep
  have hAttempt : s.attempt.toNat ≤ 9 := (underway_of_inv h hs).attempt
  obtain ⟨-, rfl⟩ | ⟨hs, rfl⟩ | ⟨hs, rfl⟩ | ⟨hs, rfl⟩ | ⟨hs, rfl⟩ | ⟨hs, rfl⟩ := sequencerStep_cases hStep
  · exact h
  · exact inv_of_phase (.sent rfl (h.attemptFresh (.inl hs))) (hUnderway nofun hAttempt)
  · exact inv_of_phase (.waiting rfl (by decide : 1 ≤ pollDelay.toNat ∧ pollDelay.toNat ≤ 10))
      (hUnderway nofun (Nat.zero_le 9))
  · cases stepPollReq_polled hAttempt with
    | found state attempt poll =>
      exact inv_of_phase (.found state poll) (hUnderway (by simp [state]) (attempt ▸ hAttempt))
    | again state delay bound attempt =>
      exact inv_of_phase (.waiting state (by simp [delay])) (hUnderway (by simp [state]) (by omega))
    | timeout state code result attempt =>
      refine inv_of_idle state (by rw [attempt]; decide) ?_ law
      unfold State.resultLaw
      rw [code]
      exact ⟨result, attempt⟩
  · rw [stepDataReady_eq] at hUnderway ⊢
    exact inv_of_phase (.latched rfl ⟨s.busTrace, _, _, _, rfl, (rawOf_eq_append _ _).symm, rfl⟩)
      (hUnderway nofun hAttempt)
  · cases hPass : crc8vPass s.seqRaw s.seqChk with
    | true =>
      rw [stepCrcCheck_pass hPass] at law ⊢
      obtain ⟨hLow, hLow'⟩ := cleaned_low s.seqRaw
      exact inv_of_idle rfl h.attemptBound ⟨hLow, hLow', hAttempt⟩ law
    | false =>
      rw [stepCrcCheck_fail hPass] at law ⊢
      exact inv_of_idle rfl h.attemptBound ⟨rfl, hAttempt⟩ law

theorem tick_inv (h : s.Inv) : (tick s).Inv := by
  have law : VerifyLaw (tick s) := (tick_keepsHostWritten s).verifyLaw (verifyLaw_of_inv h)
  obtain ⟨-, hTick⟩ | ⟨hs, hZero, hTick⟩ | ⟨hs, hZero, hTick⟩ := tick_cases (s := s) <;> rw [hTick] at law ⊢
  · exact h
  · obtain ⟨hAttempt, hNoResult, hResult, hBooted, -⟩ := underway_of_inv h (by simp [hs])
    exact inv_of_phase (.due rfl) ⟨hAttempt, hNoResult, hResult, hBooted, law⟩
  · obtain ⟨hAttempt, hNoResult, hResult, hBooted, -⟩ := underway_of_inv h (by simp [hs])
    have hDelay := h.delayRuns hs
    have hLess : 1 ≤ (s.delay - 1).toNat ∧ (s.delay - 1).toNat ≤ 10 := by bv_omega
    exact inv_of_phase (.waiting hs hLess) ⟨hAttempt, hNoResult, hResult, hBooted, law⟩

/-! ### The Host, reset and the environment -/

/-- After a VERIFY, CRC_PASS says whether CRC_REM is zero (R102, R106). -/
theorem verifyLaw_verify (s : State) : VerifyLaw (verify s) := ⟨fun _ => crc8vPass_iff s.crcData s.crcChk, nofun⟩

theorem effect_inv (h : s.Inv) (hEffect : Effect s t) : t.Inv := by
  obtain rfl | ⟨v, rfl⟩ | ⟨d, rfl⟩ | ⟨d, rfl⟩ | rfl | rfl | ⟨k, hBoot, -, rfl⟩ := hEffect
  · exact h
  · exact inv_of_view h rfl id id
  · exact inv_of_view h rfl id id
  · exact inv_of_view h rfl id id
  · exact inv_of_view h rfl id fun _ => verifyLaw_verify s
  · exact inv_of_view h rfl id id
  · have law := verifyLaw_of_inv h
    exact inv_of_phase (.accepted rfl rfl) ⟨Nat.zero_le 9, rfl, rfl, hBoot, law⟩

theorem hostStep_inv (h : s.Inv) (hStep : hostStep s = .next t) : t.Inv := by
  obtain ⟨u, hu, pc, n, rfl⟩ := hostStep_effect hStep
  exact inv_of_view (effect_inv h hu) rfl id id

/-- Reset leads into the invariant from every state (R36, R210). -/
theorem resetBlock_inv (s : State) : (resetBlock s).Inv :=
  inv_of_idle rfl (Nat.zero_le 10) rfl ⟨nofun, fun _ => ⟨rfl, rfl⟩⟩

/-- Every event keeps the invariant. -/
theorem eventStep_inv (h : s.Inv) (hStep : eventStep e s = .next t) : t.Inv := by
  cases e with
  | host => exact hostStep_inv h hStep
  | sequencer => exact sequencerStep_inv h hStep
  | tick =>
    cases hStep
    exact tick_inv h
  | reset =>
    cases hStep
    exact resetBlock_inv s
  | environment r =>
    cases hStep
    exact inv_of_view h rfl (Boot.meet_met r) id

theorem takeEvent_inv (h : s.Inv) : s.takeEvent.Inv := by
  exact inv_of_view h (view_takeEvent s) (s.takeEvent_boot ▸ ·) (takeEvent_keepsHostWritten s).verifyLaw

/-- Settles O42: taking the event keeps the invariant, and so does the event's step. -/
theorem invariantIsKept : Obligations.InvariantIsKept := by
  unfold Obligations.InvariantIsKept
  exact fun s t h hStep => eventStep_inv (takeEvent_inv h) hStep

/-- Settles O43: power-on is in IDLE, with the values of reset. -/
theorem invariantAtPowerOn : Obligations.InvariantAtPowerOn := by
  unfold Obligations.InvariantAtPowerOn
  exact inv_of_idle rfl (Nat.zero_le 10) rfl ⟨nofun, fun _ => ⟨rfl, rfl⟩⟩

/-! ### What the invariant gives -/

/-- The well-formed instructions that ask for a measurement are MEAS_RH and MEAS_T (R83, R84). -/
theorem asksMeasurement_of_wf {i : Instr} (hWf : i.wf = true) (h : asksMeasurement i = true) :
    i = .measRh ∨ i = .measT := by
  cases i with
  | measRh => exact .inl rfl
  | measT => exact .inr rfl
  | wr reg data =>
    obtain ⟨rfl, hOp⟩ := of_decide_eq_true h
    have hReserved : 4 ≤ (opOf data).toNat := of_decide_eq_true hWf
    obtain hOp | hOp := hOp <;> rw [hOp] at hReserved <;> exact absurd hReserved (by decide)
  | _ => cases h

/-- Settles O44: the Sequencer is in a named state, and the Host is refused only where it asks for a measurement. -/
theorem invariantStatesGoOn : Obligations.InvariantStatesGoOn := by
  unfold Obligations.InvariantStatesGoOn
  intro s h
  cases he : s.nextEvent with
  | host =>
    rw [step_of_nextEvent he]
    obtain ⟨-, hGo⟩ | ⟨w, u, -, -, hGo⟩ | ⟨w, hw, hAsks, hBoot, hRefused⟩ | ⟨pc, hGo⟩ :=
      hostStep_cases (s := s.takeEvent)
    · exact .inl ⟨_, hGo⟩
    · exact .inl ⟨_, hGo⟩
    · exact .inr ⟨hRefused, s.takeEvent_boot ▸ hBoot, rfl, w, by simpa using hw,
        asksMeasurement_of_wf (decode_wf w) hAsks⟩
    · exact .inl ⟨_, hGo⟩
  | sequencer =>
    rw [step_of_nextEvent he]
    exact .inl (sequencerStep_next (s.takeEvent_seqState ▸ h.named))
  | tick | reset | environment r => exact .inl ⟨_, step_of_nextEvent he⟩

/-- Settles O45: the two low bits of each outcome's RESULT. -/
theorem resultAloneTellsOutcome : Obligations.ResultAloneTellsOutcome := by
  unfold Obligations.ResultAloneTellsOutcome
  intro s h hCode
  have hOutcome := h.outcome
  unfold State.resultLaw at hOutcome
  cases hEnd : s.resultCode with
  | none => exact absurd hEnd hCode
  | ok =>
    rw [hEnd] at hOutcome
    obtain ⟨hLow, hLow', -⟩ := hOutcome
    have hBits : s.result.extractLsb' 0 2 = 0b00 := by
      ext i hi
      obtain rfl | rfl : i = 0 ∨ i = 1 := by omega
      · simpa using hLow
      · simpa using hLow'
    rw [hBits]
    decide
  | timeout =>
    rw [hEnd] at hOutcome
    rw [hOutcome.1]
    decide
  | crcFail =>
    rw [hEnd] at hOutcome
    rw [hOutcome.1]
    decide

/-- Settles O46: a step of any agent that starts and ends BUSY leaves the result fields as they are. -/
theorem resultWrittenByLastStepOnly : Obligations.ResultWrittenByLastStepOnly := by
  unfold Obligations.ResultWrittenByLastStepOnly
  exact fun s t h hs ht => step_result_of_busy h hs ht

end Sys2Proof.Proofs
end

section
/-! PROOFS. A measurement moves on only by its own agent, and with every such move it is nearer its end; so it ends in
every fair run (41_measurement_protocol.md R134, R137; 70_reset_and_hazards.md R222). -/

namespace Sys2Proof.Proofs

open Sys2Proof.Machine

variable {s t : State} {e : Event}

/-! ### The moves of a measurement -/

/-- The event moves the measurement on: an enabled Sequencer step, or a tick that POLL_WAIT counts (R134, R137). -/
def Moves (e : Event) (s : State) : Prop :=
  (e = .sequencer ∧ s.seqEnabled = true) ∨ (e = .tick ∧ s.seqState = seqPollWait)

/-- Every other event but reset leaves a running measurement as it is (R145). -/
theorem eventStep_view_of_not_moves (h : eventStep e s = .next t) (hs : s.seqState ≠ seqIdle) (hReset : e ≠ .reset)
    (hMoves : ¬Moves e s) : view t = view s := by
  cases e with
  | host => exact hostStep_view h hs
  | sequencer =>
    have hOff : s.seqEnabled = false := by
      rw [← Bool.not_eq_true]
      exact fun hOn => hMoves (.inl ⟨rfl, hOn⟩)
    rw [sequencerStep_disabled hOff h]
  | tick =>
    cases h
    rw [tick_elsewhere fun hWait => hMoves (.inr ⟨rfl, hWait⟩)]
  | reset => exact absurd rfl hReset
  | environment r =>
    cases h
    rfl

/-- A reset leads to IDLE (R210). -/
theorem not_reset_of_busy (h : eventStep e s = .next t) (ht : t.seqState ≠ seqIdle) : e ≠ .reset := by
  rintro rfl
  cases h
  exact ht (resetBlock_seqState s)

theorem step_view_of_not_moves (h : step s = .next t) (hs : s.seqState ≠ seqIdle) (hReset : s.nextEvent ≠ .reset)
    (hMoves : ¬Moves s.nextEvent s) : view t = view s := by
  have hBusy : s.takeEvent.seqState ≠ seqIdle := s.takeEvent_seqState ▸ hs
  refine (eventStep_view_of_not_moves h hBusy hReset ?_).trans (view_takeEvent s)
  unfold Moves
  rw [seqEnabled_takeEvent, s.takeEvent_seqState]
  exact hMoves

/-- Settles O51: in POLL_WAIT the only move is a tick, in every other SEQ_STATE it is a Sequencer step. -/
theorem progressNeedsItsAgent : Obligations.ProgressNeedsItsAgent := by
  unfold Obligations.ProgressNeedsItsAgent
  intro s t h hs hReset
  refine ⟨fun hWait hTick => ?_, fun hWait hSeq => ?_⟩
  · have hOff : s.seqEnabled = false := seqEnabled_of_waits (.inr hWait)
    have hStays : ¬Moves s.nextEvent s := by simp [Moves, hOff, hTick]
    obtain ⟨hState, -, -, -, -, hDelay, -⟩ := view_eq_iff.mp (step_view_of_not_moves h hs hReset hStays)
    exact ⟨hState.trans hWait, hDelay⟩
  · have hStays : ¬Moves s.nextEvent s := by
      rintro (⟨he, -⟩ | ⟨-, hState⟩)
      · exact hSeq he
      · exact hWait hState
    exact congrArg MeasurementView.seqState (step_view_of_not_moves h hs hReset hStays)

/-! ### The distance to the end -/

/-- A bound on the moves that a measurement has still to make: from POLL_REQ on three, and eleven for each further
attempt, ten ticks and a poll (R221). -/
def movesLeft (s : State) : Nat :=
  let rounds := 3 + 11 * (9 - s.attempt.toNat)
  if s.seqState = seqTrigger then 114
  else if s.seqState = seqCmdSent then 113
  else if s.seqState = seqPollWait then rounds + s.delay.toNat
  else if s.seqState = seqPollReq then rounds
  else if s.seqState = seqDataReady then 2
  else if s.seqState = seqCrcCheck then 1
  else 0

theorem movesLeft_idle (h : s.seqState = seqIdle) : movesLeft s = 0 := by simp [movesLeft, h]
theorem movesLeft_trigger (h : s.seqState = seqTrigger) : movesLeft s = 114 := by simp [movesLeft, h]
theorem movesLeft_cmdSent (h : s.seqState = seqCmdSent) : movesLeft s = 113 := by simp [movesLeft, h]
theorem movesLeft_pollWait (h : s.seqState = seqPollWait) :
    movesLeft s = 3 + 11 * (9 - s.attempt.toNat) + s.delay.toNat := by simp [movesLeft, h]
theorem movesLeft_pollReq (h : s.seqState = seqPollReq) : movesLeft s = 3 + 11 * (9 - s.attempt.toNat) := by
  simp [movesLeft, h]
theorem movesLeft_dataReady (h : s.seqState = seqDataReady) : movesLeft s = 2 := by simp [movesLeft, h]
theorem movesLeft_crcCheck (h : s.seqState = seqCrcCheck) : movesLeft s = 1 := by simp [movesLeft, h]

theorem movesLeft_of_view (h : view t = view s) : movesLeft t = movesLeft s := by
  obtain ⟨hState, -, -, -, hAttempt, hDelay, -⟩ := view_eq_iff.mp h
  rw [movesLeft, hState, hAttempt, hDelay, movesLeft]

/-- CRC_CHECK ends in IDLE with an outcome (R141). -/
theorem stepCrcCheck_ends (s : State) : (stepCrcCheck s).seqState = seqIdle ∧ (stepCrcCheck s).resultCode ≠ .none := by
  obtain ⟨code, value, hEnd, hOutcome⟩ := stepCrcCheck_outcome (t := s) rfl rfl
  rw [hEnd]
  refine ⟨rfl, fun hNone => ?_⟩
  obtain ⟨-, hCode, -⟩ | ⟨-, hCode, -⟩ := hOutcome <;> cases hNone.symm.trans hCode

theorem sequencerStep_movesLeft (hInv : s.Inv) (hOn : s.seqEnabled = true) (h : sequencerStep s = .next t) :
    movesLeft t < movesLeft s := by
  obtain ⟨hs, -⟩ | ⟨hs, rfl⟩ | ⟨hs, rfl⟩ | ⟨hs, rfl⟩ | ⟨hs, rfl⟩ | ⟨hs, rfl⟩ := sequencerStep_cases h
  · simp [seqEnabled_of_waits hs] at hOn
  · rw [movesLeft_trigger hs, movesLeft_cmdSent rfl]
    decide
  · rw [movesLeft_cmdSent hs, movesLeft_pollWait rfl]
    exact (by decide : 3 + 11 * (9 - (0 : BitVec 4).toNat) + pollDelay.toNat < 113)
  · rw [movesLeft_pollReq hs]
    cases stepPollReq_polled (underway_of_inv hInv (by simp [hs])).attempt with
    | found state attempt poll => rw [movesLeft_dataReady state]; omega
    | again state delay bound attempt =>
      rw [movesLeft_pollWait state, attempt, delay]
      simp only [BitVec.ofNat_eq_ofNat, BitVec.reduceToNat]
      omega
    | timeout state code result attempt => rw [movesLeft_idle state]; omega
  · rw [movesLeft_dataReady hs, movesLeft_crcCheck rfl]
    decide
  · rw [movesLeft_crcCheck hs, movesLeft_idle (stepCrcCheck_ends s).1]
    decide

theorem tick_movesLeft (hInv : s.Inv) (hs : s.seqState = seqPollWait) : movesLeft (tick s) < movesLeft s := by
  obtain ⟨hDelay, -⟩ := hInv.delayRuns hs
  rw [movesLeft_pollWait hs]
  by_cases hLast : s.delay = 1
  · rw [tick_last hs hLast, movesLeft_pollReq rfl]
    dsimp only
    omega
  · have hLess : (s.delay - 1).toNat < s.delay.toNat := by bv_omega
    rw [tick_counts hs hLast, movesLeft_pollWait (s := { s with delay := s.delay - 1 }) hs]
    dsimp only
    omega

/-- Every move brings the measurement nearer its end. -/
theorem eventStep_movesLeft (hInv : s.Inv) (hMoves : Moves e s) (h : eventStep e s = .next t) :
    movesLeft t < movesLeft s := by
  obtain ⟨rfl, hOn⟩ | ⟨rfl, hWait⟩ := hMoves
  · exact sequencerStep_movesLeft hInv hOn h
  · cases h
    exact tick_movesLeft hInv hWait

/-- An event that ends a measurement gives it an outcome, unless it is a reset (R139, R141, R211). -/
theorem eventStep_outcome (hInv : s.Inv) (h : eventStep e s = .next t) (hs : s.seqState ≠ seqIdle)
    (ht : t.seqState = seqIdle) (hReset : e ≠ .reset) : t.resultCode ≠ .none := by
  by_cases hMoves : Moves e s
  · obtain ⟨rfl, -⟩ | ⟨rfl, hWait⟩ := hMoves
    · obtain ⟨-, rfl⟩ | ⟨-, rfl⟩ | ⟨-, rfl⟩ | ⟨-, rfl⟩ | ⟨-, rfl⟩ | ⟨-, rfl⟩ := sequencerStep_cases h
      · exact absurd ht hs
      · cases ht
      · cases ht
      · cases stepPollReq_polled (underway_of_inv hInv hs).attempt with
        | found state | again state => cases state.symm.trans ht
        | timeout state code => rw [code]; nofun
      · cases ht
      · exact (stepCrcCheck_ends s).2
    · cases h
      obtain ⟨hElse, -⟩ | ⟨-, -, hTick⟩ | ⟨-, -, hTick⟩ := tick_cases (s := s)
      · exact absurd hWait hElse
      · rw [hTick] at ht
        cases ht
      · rw [hTick] at ht
        exact absurd ht hs
  · have hView := eventStep_view_of_not_moves h hs hReset hMoves
    exact absurd ((congrArg MeasurementView.seqState hView).symm.trans ht) hs

/-! ### Fair runs -/

section
variable {events : Nat → Event} {states : Nat → State}

theorem isRun_inv (hRun : IsRun events states) (hInv : (states 0).Inv) (n : Nat) : (states n).Inv := by
  induction n with
  | zero => exact hInv
  | succ n ih => exact eventStep_inv ih (hRun n)

/-- A running measurement waits for one of the two agents (R134). -/
theorem seqEnabled_or_waits (hInv : s.Inv) (hs : s.seqState ≠ seqIdle) :
    s.seqEnabled = true ∨ s.seqState = seqPollWait := by
  obtain ⟨t, ht⟩ := sequencerStep_next hInv.named
  obtain ⟨hIdle | hWait, -⟩ | ⟨hOn, -⟩ | ⟨hOn, -⟩ | ⟨hOn, -⟩ | ⟨hOn, -⟩ | ⟨hOn, -⟩ := sequencerStep_cases ht
  · exact absurd hIdle hs
  · exact .inr hWait
  all_goals exact .inl (by simp [State.seqEnabled, hOn])

theorem timeSourceStarted_of_met {b : Boot} (h : b.met = true) : b.timeSourceStarted = true :=
  (Bool.and_eq_true_iff.mp h).2

/-- Fairness brings a moment at which the measurement moves, if it is still where it was (R222): while BUSY the Time
Source is started (R214). -/
theorem exists_moment (hFair : WeaklyFair events states) (hInv : ∀ n, (states n).Inv) (n : Nat)
    (hs : (states n).seqState ≠ seqIdle) :
    ∃ m, n ≤ m ∧ (view (states m) = view (states n) → Moves (events m) (states m)) := by
  obtain hOn | hWait := seqEnabled_or_waits (hInv n) hs
  · obtain ⟨m, hm, hAgent⟩ := hFair.sequencer n
    refine ⟨m, hm, fun hView => ?_⟩
    have hState : (states m).seqState = (states n).seqState := congrArg MeasurementView.seqState hView
    have hOn' : (states m).seqEnabled = true := by
      rw [State.seqEnabled, hState]
      exact hOn
    exact .inl ⟨hAgent hOn', hOn'⟩
  · obtain ⟨m, hm, hAgent⟩ := hFair.clock n
    refine ⟨m, hm, fun hView => ?_⟩
    have hWait' : (states m).seqState = seqPollWait := (congrArg MeasurementView.seqState hView).trans hWait
    have hBoot := (hInv m).booted (by simp [hWait'])
    exact .inr ⟨hAgent (timeSourceStarted_of_met hBoot), hWait'⟩

/-- Until its first move a measurement that goes on BUSY stays as it is. -/
theorem moves_or_same (hRun : IsRun events states) {n : Nat} (hBusy : ∀ m, n ≤ m → (states m).seqState ≠ seqIdle)
    (k : Nat) :
    (∃ m, n ≤ m ∧ Moves (events m) (states m) ∧ view (states m) = view (states n))
      ∨ view (states (n + k)) = view (states n) := by
  induction k with
  | zero => exact .inr rfl
  | succ k ih =>
    obtain hMoved | hSame := ih
    · exact .inl hMoved
    · by_cases hMoves : Moves (events (n + k)) (states (n + k))
      · exact .inl ⟨n + k, Nat.le_add_right n k, hMoves, hSame⟩
      · have hReset := not_reset_of_busy (hRun (n + k)) (hBusy (n + k + 1) (by omega))
        exact .inr ((eventStep_view_of_not_moves (hRun _) (hBusy _ (Nat.le_add_right n k)) hReset hMoves).trans hSame)

/-- It comes to IDLE: by induction on the moves it has left. -/
theorem exists_idle (hRun : IsRun events states) (hFair : WeaklyFair events states) (hInv : ∀ n, (states n).Inv)
    (n : Nat) : ∃ m, n ≤ m ∧ (states m).seqState = seqIdle := by
  induction hLeft : movesLeft (states n) using Nat.strong_induction_on generalizing n with
  | _ left ih =>
    by_contra! hBusy
    obtain ⟨m, hm, hMoment⟩ := exists_moment hFair hInv n (hBusy n le_rfl)
    have hMove : ∃ m, n ≤ m ∧ Moves (events m) (states m) ∧ view (states m) = view (states n) := by
      obtain hMoved | hSame := moves_or_same hRun hBusy (m - n)
      · exact hMoved
      · rw [Nat.add_sub_cancel' hm] at hSame
        exact ⟨m, hm, hMoment hSame, hSame⟩
    obtain ⟨m, hm, hMoves, hSame⟩ := hMove
    have hNearer := eventStep_movesLeft (hInv m) hMoves (hRun m)
    rw [movesLeft_of_view hSame, hLeft] at hNearer
    obtain ⟨k, hk, hIdle⟩ := ih _ hNearer (m + 1) rfl
    exact hBusy k (by omega) hIdle

end

/-- Settles O50: the first IDLE state is reached by a reset or with an outcome. -/
theorem fairMeasurementEnds : Obligations.FairMeasurementEnds := by
  unfold Obligations.FairMeasurementEnds
  intro events states hRun hFair hInv hs
  have hInvs := isRun_inv hRun hInv
  have hEnds : ∃ n, (states n).seqState = seqIdle := (exists_idle hRun hFair hInvs 0).imp fun _ => And.right
  classical
  refine ⟨Nat.find hEnds, Nat.find_spec hEnds, fun m => Nat.find_min hEnds, ?_⟩
  obtain ⟨k, hk⟩ : ∃ k, Nat.find hEnds = k + 1 :=
    Nat.exists_eq_succ_of_ne_zero fun hZero => hs ((Nat.find_eq_zero hEnds).mp hZero)
  by_cases hReset : events k = .reset
  · exact .inr ⟨k, by omega, hReset⟩
  · have hIdle := Nat.find_spec hEnds
    rw [hk] at hIdle ⊢
    exact .inl (eventStep_outcome (hInvs k) (hRun k) (Nat.find_min hEnds (by omega)) hIdle hReset)

end Sys2Proof.Proofs
end

section
/-! PROOFS. A measurement served by a fixed schedule ends, whatever the Adapter answers (70_reset_and_hazards.md R221,
R222): an induction over the rounds of ten ticks, a poll, and the frame when the poll found it. -/

namespace Sys2Proof.Proofs

open Sys2Proof.Machine

variable {s t : State} {rest events : List Event} {P : State → Prop} {j k : Nat}

/-! ### Runs along a schedule -/

/-- `n` steps lead to a state with `P`, with `rest` left of the schedule. -/
def RunsTo (n : Nat) (s : State) (rest : List Event) (P : State → Prop) : Prop :=
  ∃ t, core.run n s = .next t ∧ t.schedule = rest ∧ P t

theorem runsTo_add (h : core.run j s = .next t) (hMore : RunsTo k t rest P) : RunsTo (j + k) s rest P := by
  obtain ⟨u, hRun, hRest⟩ := hMore
  exact ⟨u, (core_run_add j k h).trans hRun, hRest⟩

/-- A Sequencer event at the head of the schedule is taken, and the run goes on from there. -/
theorem runsTo_sequencer (hSched : s.schedule = .sequencer :: events)
    (h : sequencerStep (setSchedule events s) = .next t) (hMore : t.schedule = events → RunsTo k t rest P) :
    RunsTo (k + 1) s rest P := by
  obtain ⟨u, hRun, hRest⟩ := hMore (eventStep_schedule (e := .sequencer) h)
  exact ⟨u, (core_run_succ k ((step_of_sequencer hSched).trans h)).trans hRun, hRest⟩

/-- The event passes without effect: a Sequencer event in IDLE and in POLL_WAIT, a tick outside POLL_WAIT (R134,
R137). -/
def Passes (s : State) (e : Event) : Prop :=
  (e = .sequencer ∧ (s.seqState = seqIdle ∨ s.seqState = seqPollWait)) ∨ (e = .tick ∧ s.seqState ≠ seqPollWait)

theorem eventStep_of_passes {e : Event} (h : Passes s e) : eventStep e s = .next s := by
  obtain ⟨rfl, hs | hs⟩ | ⟨rfl, hs⟩ := h
  · exact sequencerStep_idle hs
  · exact sequencerStep_pollWait hs
  · exact congrArg Host.Outcome.next (tick_elsewhere hs)

theorem run_passes (hSched : s.schedule = events ++ rest) (hPass : ∀ e ∈ events, Passes s e) :
    core.run events.length s = .next (setSchedule rest s) := by
  induction events generalizing s with
  | nil =>
    obtain rfl : s.schedule = rest := hSched
    rfl
  | cons e events ih =>
    obtain ⟨hHead, hTail⟩ := List.forall_mem_cons.mp hPass
    have hStep : step s = .next (setSchedule (events ++ rest) s) := by
      rw [step_of_schedule hSched]
      exact eventStep_of_passes (s := setSchedule (events ++ rest) s) hHead
    exact (core_run_succ _ hStep).trans (ih rfl hTail)

/-! ### The rounds -/

/-- A measurement that has ended with an outcome. -/
def Ended (s : State) : Prop := s.seqState = seqIdle ∧ s.resultCode ≠ .none

/-- The events of one round: the delay, the poll, and the two steps of a frame that it found. -/
def pollRound : List Event := List.replicate 10 .tick ++ [.sequencer, .sequencer, .sequencer]

/-- With `k` rounds to come the measurement has ended, or it waits a full delay for the first of `k` polls. -/
def Poised (k : Nat) (s : State) : Prop :=
  Ended s ∨ (s.seqState = seqPollWait ∧ s.delay = 10 ∧ s.attempt.toNat + k = 10 ∧ 1 ≤ k)

/-- What follows a poll in its round: the frame is read and checked, or two events pass. -/
theorem polled_runsTo (hPolled : Polled s t) (hLeft : s.attempt.toNat + (k + 1) = 10)
    (hSched : t.schedule = [.sequencer, .sequencer] ++ rest) : RunsTo 2 t rest (Poised k) := by
  cases hPolled with
  | found state =>
    refine runsTo_sequencer hSched (sequencerStep_dataReady (s := setSchedule _ t) state) fun hSched' => ?_
    exact runsTo_sequencer hSched' (sequencerStep_crcCheck (s := setSchedule _ (stepDataReady _)) rfl) fun hSched'' =>
      ⟨_, rfl, hSched'', .inl (stepCrcCheck_ends _)⟩
  | again state delay bound attempt =>
    have hLeft' : t.attempt.toNat + k = 10 ∧ 1 ≤ k := by omega
    exact ⟨_, run_passes hSched (by simp [Passes, state]), rfl, .inr ⟨state, delay, hLeft'⟩⟩
  | timeout state code =>
    exact ⟨_, run_passes hSched (by simp [Passes, state]), rfl, .inl ⟨state, by simp [code]⟩⟩

/-- A round brings the end nearer by one poll (R137, R138). -/
theorem round_runsTo (h : Poised (k + 1) s) (hSched : s.schedule = pollRound ++ rest) :
    RunsTo 13 s rest (Poised k) := by
  obtain ⟨hs, hCode⟩ | ⟨hs, hDelay, hLeft, -⟩ := h
  · exact ⟨_, run_passes hSched (by simp [Passes, hs, pollRound]), rfl, .inl ⟨hs, hCode⟩⟩
  · have hTicks := run_ticks (n := 9) (hSched.trans (List.append_assoc ..)) hs (by rw [hDelay]; rfl)
    refine runsTo_add (k := 3) hTicks (runsTo_sequencer (k := 2) rfl (sequencerStep_pollReq rfl) fun hSched' => ?_)
    have hBound : s.attempt.toNat ≤ 9 := by omega
    exact polled_runsTo (stepPollReq_polled (by exact hBound)) hLeft hSched'

theorem rounds_runsTo (h : Poised k s) (hSched : s.schedule = (List.replicate k pollRound).flatten ++ rest) :
    RunsTo (13 * k) s rest Ended := by
  induction k generalizing s with
  | zero =>
    obtain hEnd | ⟨-, -, -, hMore⟩ := h
    · exact ⟨s, rfl, hSched, hEnd⟩
    · cases hMore
  | succ k ih =>
    rw [List.replicate_succ, List.flatten_cons, List.append_assoc] at hSched
    obtain ⟨t, hRun, hSched', hPoised⟩ := round_runsTo h hSched
    rw [Nat.mul_succ, Nat.add_comm]
    exact runsTo_add hRun (ih hPoised hSched')

/-- Settles O53: the trigger and the entry into the polling loop, then ten rounds. -/
theorem servedMeasurementEnds : Obligations.ServedMeasurementEnds := by
  unfold Obligations.ServedMeasurementEnds
  intro s rest hInv hs hSched
  have hEnd : RunsTo (13 * 10 + 1 + 1) s rest Ended := by
    rw [measurementSchedule, List.append_assoc] at hSched
    refine runsTo_sequencer hSched (sequencerStep_trigger hs) fun hSched' => ?_
    refine runsTo_sequencer hSched' (sequencerStep_cmdSent rfl) fun hSched'' => ?_
    exact rounds_runsTo (.inr ⟨rfl, rfl, rfl, by decide⟩) hSched''
  have hLength : measurementSchedule.length = 13 * 10 + 1 + 1 := by simp [measurementSchedule]
  rw [hLength]
  obtain ⟨t, hRun, hSched', hState, hCode⟩ := hEnd
  exact ⟨t, hRun, hState, hCode, hSched'⟩

end Sys2Proof.Proofs
end

section
/-! PROOFS. The causes of the two sticky flags (60_exceptions.md R183, R184), and the outcome of a measurement run that
ends without either (70_reset_and_hazards.md R224). -/

namespace Sys2Proof.Proofs

open Sys2Proof.Machine

variable {s t : State} {m : MeasurementView} {failed : List Byte} {steps ticks : Nat} {cut : Bool}

/-! ### The causes of CMD_ERR (R183) -/

theorem measAccept_sets_cmdErr {k : Kind} (h : measAccept k s = .next t) (hs : s.cmdErr = false)
    (ht : t.cmdErr = true) : s.seqState ≠ seqIdle := by
  intro hIdle
  cases hBoot : s.boot.met with
  | false => cases (measAccept_unmet hBoot).symm.trans h
  | true =>
    cases (measAccept_idle hBoot hIdle).symm.trans h
    cases hs.symm.trans ht

/-- The well-formed instructions that set CMD_ERR are a write of a reserved command value and, while BUSY, a MEAS_*. -/
theorem exec_sets_cmdErr {i : Instr} (hWf : i.wf = true) (h : exec i s = .next t) (hs : s.cmdErr = false)
    (ht : t.cmdErr = true) : (∃ d : Data, i = .wr .cmd d ∧ 0x04 ≤ (d.extractLsb' 0 8).toNat)
      ∨ ((i = .measRh ∨ i = .measT) ∧ s.seqState ≠ 0) := by
  cases i with
  | measRh => exact .inr ⟨.inl rfl, measAccept_sets_cmdErr h hs ht⟩
  | measT => exact .inr ⟨.inr rfl, measAccept_sets_cmdErr h hs ht⟩
  | wr reg data =>
    cases reg with
    | cmd =>
      have hReserved : 4 ≤ (data.setWidth 8).toNat := of_decide_eq_true hWf
      rw [BitVec.setWidth_eq_extractLsb' (by decide)] at hReserved
      exact .inl ⟨data, rfl, hReserved⟩
    | _ => cases h; cases hs.symm.trans ht
  | _ => cases h; cases hs.symm.trans ht

theorem hostStep_sets_cmdErr (h : hostStep s = .next t) (hs : s.cmdErr = false) (ht : t.cmdErr = true) :
    ∃ w, s.hostProgram[s.hostPc]? = some (.txn w)
      ∧ ((∃ d : Data, decode w = .wr .cmd d ∧ 0x04 ≤ (d.extractLsb' 0 8).toNat)
        ∨ ((decode w = .measRh ∨ decode w = .measT) ∧ s.seqState ≠ 0)) := by
  obtain ⟨-, h'⟩ | ⟨w, u, hw, hu, h'⟩ | ⟨w, -, -, -, h'⟩ | ⟨pc, h'⟩ := hostStep_cases (s := s) <;>
    cases h'.symm.trans h
  · cases hs.symm.trans ht
  · exact ⟨w, hw, exec_sets_cmdErr (decode_wf w) hu hs ht⟩
  · simp [hs] at ht

/-- Settles O36: the Host's instruction by its word; the Sequencer and the clock leave CMD_ERR as it is, and reset
clears it. -/
theorem commandErrorHasTwoCauses : Obligations.CommandErrorHasTwoCauses := by
  unfold Obligations.CommandErrorHasTwoCauses
  intro s t h hs ht
  obtain ⟨he, hHost⟩ | ⟨he, -⟩ | ⟨he, -⟩ | ⟨-, rfl⟩ | ⟨r, -, rfl⟩ := step_cases h
  · exact ⟨he, by simpa using hostStep_sets_cmdErr hHost (by simpa using hs) ht⟩
  · cases (hs.symm.trans (step_keepsHostWritten (.inl he) h).cmdErr.symm).trans ht
  · cases (hs.symm.trans (step_keepsHostWritten (.inr he) h).cmdErr.symm).trans ht
  · cases ht
  · simp [hs] at ht

/-! ### The cause of ADAPTER_ERR (R184) -/

/-- A poll notes an answer above 3 (R139). -/
theorem stepPollReq_adapterErr (s : State) :
    (stepPollReq s).adapterErr = (s.adapterErr || decide (3 < s.nextAvailable.toNat)) := by
  by_cases hFound : s.nextAvailable = readCount
  · rw [stepPollReq_found hFound, hFound]
    simp [readCount]
  · rw [stepPollReq_failed rfl hFound]
    split <;> rfl

/-- No other Sequencer step writes the flag. -/
theorem sequencerStep_sets_adapterErr (h : sequencerStep s = .next t) (hs : s.adapterErr = false)
    (ht : t.adapterErr = true) : s.seqState = seqPollReq ∧ t = stepPollReq s := by
  obtain ⟨-, rfl⟩ | ⟨-, rfl⟩ | ⟨-, rfl⟩ | hPoll | ⟨-, rfl⟩ | ⟨-, rfl⟩ := sequencerStep_cases h
  · cases hs.symm.trans ht
  · cases hs.symm.trans ht
  · cases hs.symm.trans ht
  · exact hPoll
  · rw [stepDataReady_eq] at ht
    cases hs.symm.trans ht
  · obtain ⟨code, value, hEnd, -⟩ := stepCrcCheck_outcome (t := s) rfl rfl
    rw [hEnd] at ht
    cases hs.symm.trans ht

theorem tick_adapterErr (s : State) : (tick s).adapterErr = s.adapterErr := by
  obtain ⟨-, h⟩ | ⟨-, -, h⟩ | ⟨-, -, h⟩ := tick_cases (s := s) <;> rw [h] <;> rfl

/-- Settles O37: of all agents' steps only the Sequencer's poll sets the flag, from an answer above 3. -/
theorem adapterErrorHasOneCause : Obligations.AdapterErrorHasOneCause := by
  unfold Obligations.AdapterErrorHasOneCause
  intro s t h hs ht
  have hs' : s.takeEvent.adapterErr = false := s.takeEvent_adapterErr.trans hs
  obtain ⟨-, hHost⟩ | ⟨he, hSeq⟩ | ⟨-, rfl⟩ | ⟨-, rfl⟩ | ⟨r, -, rfl⟩ := step_cases h
  · cases (hs'.symm.trans (hostStep_frame hHost).1.symm).trans ht
  · obtain ⟨hState, rfl⟩ := sequencerStep_sets_adapterErr hSeq hs' ht
    rw [stepPollReq_adapterErr, hs'] at ht
    refine ⟨he, s.takeEvent_seqState.symm.trans hState, s.takeEvent.nextAvailable, of_decide_eq_true ht, ?_⟩
    rw [stepPollReq_busTrace, s.takeEvent_busTrace]
    rfl
  · cases (hs'.symm.trans (tick_adapterErr _).symm).trans ht
  · cases ht
  · cases hs'.symm.trans ht

/-! ### A clean run (R224) -/

/-- A run that no reset has cut so far keeps a flag that was set at its start (R24). -/
theorem measuring_keepsStickyFlags (h : Measuring s steps ticks cut t) (hStart : Progress s 0 0 (view s))
    (hCut : cut = false) : KeepsStickyFlags s t := by
  induction h with
  | start => exact ⟨id, id⟩
  | @more steps ticks cut t u hRun hBusy hStep ih =>
    rw [busy_iff] at hBusy
    obtain ⟨-, v, rfl⟩ | ⟨hCut', -⟩ := measuring_progress hRun hStart
    · exact absurd (resetBlock_seqState v) hBusy
    · obtain ⟨hCmd, hAdapter⟩ := ih hCut'
      obtain ⟨hCmd', hAdapter'⟩ := step_keepsStickyFlags hStep (of_decide_eq_false hCut)
      exact ⟨hCmd' ∘ hCmd, hAdapter' ∘ hAdapter⟩

/-- Without ADAPTER_ERR at its end a measurement began without it, and every failed poll answered at most 2 (R57). -/
theorem Observed.clean {out : List BusEvent} (h : Observed s failed out m) (hErr : m.adapterErr = false) :
    s.adapterErr = false ∧ ∀ n ∈ failed, n.toNat ≤ 2 := by
  have hAll := h.adapterErr.symm.trans hErr
  rw [Bool.or_eq_false_iff, List.any_eq_false] at hAll
  refine ⟨hAll.1, fun n hn => ?_⟩
  have hLow : ¬3 < n.toNat := by simpa using hAll.2 n hn
  have hNotThree := h.noFrame n hn
  bv_omega

/-- The outcome tuple of a state without a flag, with ATTEMPT as a count. -/
theorem runOutcome_of_clean {code : ResultCode} {result : Data} {n : Nat} (hCode : t.resultCode = code)
    (hResult : t.result = result) (hAttempt : t.attempt.toNat = n) (hCmd : t.cmdErr = false)
    (hAdapter : t.adapterErr = false) : t.runOutcome = ⟨code, result, BitVec.ofNat 4 n, false, false⟩ := by
  subst hCode hResult hAttempt
  simp [State.runOutcome, hCmd, hAdapter]

/-- Settles O49: a reset leaves nothing; else the run is at one of the two ends of its progress, observed without a
flag. -/
theorem cleanRunOutcome : Obligations.CleanRunOutcome := by
  unfold Obligations.CleanRunOutcome
  intro s t steps ticks cut hInv ⟨hAccepted, hRuns, hEnded⟩ hCmd hAdapter
  have hStart := progress_accepted hInv hAccepted
  obtain ⟨hCut, v, rfl⟩ | ⟨hCut, hProgress⟩ := measuring_progress hRuns hStart
  · exact .inl ⟨hCut, rfl⟩
  obtain ⟨hCmdStays, hAdapterStays⟩ := measuring_keepsStickyFlags hRuns hStart hCut
  have hFaulted : s.faulted = false := by
    rw [State.faulted, Bool.or_eq_false_iff, ← Bool.not_eq_true, ← Bool.not_eq_true]
    exact ⟨fun hSet => by simp [hCmdStays hSet] at hCmd, fun hSet => by simp [hAdapterStays hSet] at hAdapter⟩
  refine .inr ⟨hCut, hFaulted, ?_⟩
  cases hProgress with
  | timedOut _ seen tenth hSteps hTicks code result =>
    refine ⟨_, (seen.clean hAdapter).2, .inl ⟨tenth, hSteps, hTicks, ?_, ?_⟩⟩
    · exact seen.busTrace.trans (List.append_assoc ..).symm
    · exact runOutcome_of_clean code result (seen.attempt.trans tenth) hCmd hAdapter
  | @checked failed msb lsb chk _ seen bound hSteps hTicks outcome =>
    refine ⟨failed, (seen.clean hAdapter).2, .inr ⟨msb, lsb, chk, bound, hSteps, hTicks, ?_, ?_⟩⟩
    · rw [show t.busTrace = _ from seen.busTrace]
      simp only [polledTrace, frameTrace, List.append_assoc]
    · obtain ⟨hPass, code, result⟩ | ⟨hFail, code, result⟩ := outcome
      · rw [if_pos hPass]
        exact runOutcome_of_clean code result seen.attempt hCmd hAdapter
      · rw [if_neg (Bool.not_eq_true _ ▸ hFail)]
        exact runOutcome_of_clean code result seen.attempt hCmd hAdapter
  | accepted phase | sent phase | waiting phase | due phase | found phase | latched phase =>
    exact absurd (phase.symm.trans hEnded) (by decide)

end Sys2Proof.Proofs
end

section
/-! PROOFS. The inputs, the Host's program and the events that are no move (20_memory.md R56, R63, R64; 30_encoding.md
R91 to R93; 41_measurement_protocol.md R134; 70_reset_and_hazards.md R210). -/

namespace Sys2Proof.Proofs

open Sys2Proof.Machine

variable {s t : State} {rest : List Event}

/-! ### Inputs and parameters (R11, R56) -/

/-- Settles O22: an answer of the list and a free one, for each of the two lists. -/
theorem adapterAnswersAreInputs : Obligations.AdapterAnswersAreInputs := by
  unfold Obligations.AdapterAnswersAreInputs
  intro s
  refine ⟨fun n rest h => ⟨nextAvailable_of_input s h, takeAvailable_of_input s h⟩, fun h => ?_,
    fun b rest h => ⟨nextByte_of_input s h, takeByte_of_input s h⟩, fun h => ?_⟩
  · simp [State.nextAvailable, State.takeAvailable, h, useFree]
  · simp [State.nextByte, State.takeByte, h, useFree]

/-- Settles O54: the gap between them is at most 254 above one. -/
theorem triggerBytesAreDistinct : Obligations.TriggerBytesAreDistinct := by
  unfold Obligations.TriggerBytesAreDistinct
  have hGap := Config.trigGap.isLt
  intro hSame
  change Config.cmdTrigRh = Config.cmdTrigRh + 1 + BitVec.ofNat 8 Config.trigGap.val at hSame
  bv_omega

/-! ### The Sequencer without a step, and reset (R134, R210, U16) -/

/-- Settles O26: the Sequencer's event passes in both states. -/
theorem sequencerWaitsInIdleAndPollWait : Obligations.SequencerWaitsInIdleAndPollWait := by
  unfold Obligations.SequencerWaitsInIdleAndPollWait
  intro s rest hSched hWaits
  rw [step_of_sequencer hSched]
  exact eventStep_of_passes (s := setSchedule rest s) (.inl ⟨rfl, hWaits⟩)

/-- SEQ_STATE 7 to 15 is none of the named states (R29). -/
theorem sequencerStep_unnamed (h : 7 ≤ s.seqState.toNat) : sequencerStep s = .fault .unnamedSeqState := by
  have hne : ∀ st : BitVec 4, st.toNat ≤ 6 → s.seqState ≠ st := by
    rintro st hst rfl
    omega
  rw [sequencerStep, if_neg (hne _ (by decide)), if_neg (hne _ (by decide)), if_neg (hne _ (by decide)),
    if_neg (hne _ (by decide)), if_neg (hne _ (by decide)), if_neg (hne _ (by decide)), if_neg (hne _ (by decide))]

/-- Settles O27: the Sequencer's event is that step. -/
theorem unnamedSeqStateIsStuck : Obligations.UnnamedSeqStateIsStuck := by
  unfold Obligations.UnnamedSeqStateIsStuck
  intro s rest hSched hState
  rw [step_of_sequencer hSched]
  exact sequencerStep_unnamed (s := setSchedule rest s) hState

/-- In IDLE no bus transaction is interrupted, so the Adapter's answers stay (log 7). -/
theorem resetBlock_idle (h : s.seqState = seqIdle) :
    (resetBlock s).availAnswers = s.availAnswers ∧ (resetBlock s).byteAnswers = s.byteAnswers := by
  rw [resetBlock, busAfterReset, not_busy_iff.mpr h]
  exact ⟨rfl, rfl⟩

theorem resetBlock_frame (s : State) : (resetBlock s).hostProgram = s.hostProgram ∧ (resetBlock s).hostPc = s.hostPc
    ∧ (resetBlock s).hostLast = s.hostLast := by
  unfold resetBlock busAfterReset
  split <;> exact ⟨rfl, rfl, rfl⟩

/-- Settles O33: the registers by the reset's own values, the rest by its frame. -/
theorem resetRestoresRegisters : Obligations.ResetRestoresRegisters := by
  unfold Obligations.ResetRestoresRegisters
  intro s rest hSched
  obtain ⟨hProgram, hPc, hLast⟩ := resetBlock_frame (setSchedule rest s)
  refine ⟨_, step_of_schedule hSched, rfl, rfl, rfl, rfl, rfl, rfl, rfl, rfl, rfl, rfl, rfl, rfl, rfl,
    resetBlock_busTrace _, resetBlock_boot _, hProgram, hPc, hLast, eventStep_schedule (e := .reset) rfl,
    resetBlock_idle (s := setSchedule rest s)⟩

/-! ### The Host's steps (R64, R91, R92) -/

/-- A transaction at the Host's place is the decoded instruction; where it goes on the Host moves to its next
operation. -/
theorem hostStep_txn {w : Htw} (hOp : s.hostProgram[s.hostPc]? = some (.txn w)) :
    hostStep s = passOp (exec (decode w) s) := by
  rw [hostStep, hOp]

theorem hostStep_txn_next {w : Htw} (hOp : s.hostProgram[s.hostPc]? = some (.txn w))
    (h : exec (decode w) s = .next t) : hostStep s = .next (setHostPc (s.hostPc + 1) t) := by
  rw [hostStep_txn hOp, h, ← (effect_frame (exec_effect h)).2.2]
  rfl

theorem hostStep_txn_refused {w : Htw} {r : Refusal} (hOp : s.hostProgram[s.hostPc]? = some (.txn w))
    (h : exec (decode w) s = .refused r) : hostStep s = .refused r := by
  rw [hostStep_txn hOp, h]
  rfl

/-- Settles O29: the Host's step on the state without the event. -/
theorem stepRunsDecodedInstruction : Obligations.StepRunsDecodedInstruction := by
  unfold Obligations.StepRunsDecodedInstruction
  intro s rest w hSched hOp
  rw [step_of_schedule hSched]
  refine ⟨fun t => hostStep_txn_next (s := setSchedule rest s) hOp,
    fun r => hostStep_txn_refused (s := setSchedule rest s) hOp, fun f hFault => ?_⟩
  obtain ⟨-, -, h⟩ | ⟨u, h, -⟩ := exec_cases (s := setSchedule rest s) (decode w)
  · cases h.symm.trans hFault
  · cases h.symm.trans hFault

/-- A table word of a format's width is carried by the transaction word that is placed for it (log 13). -/
theorem htwOfTable_ok {nbits w : Nat} {word : Htw} (h : htwOfTable nbits w = .ok word) :
    word = fetchWordOf nbits w := by
  unfold htwOfTable at h
  split_ifs at h with hCmd8 _ hHtw
  · cases h
    rw [fetchWordOf, if_pos (by omega)]
  · cases h
    rw [fetchWordOf, if_neg (by omega)]

theorem decode_fetchWordOf {nbits w : Nat} {i : Instr} (h : decodeTableWord nbits w = some i) :
    decode (fetchWordOf nbits w) = i := by
  unfold decodeTableWord decodeTable at h
  cases hWord : htwOfTable nbits w with
  | ok word =>
    rw [hWord] at h
    rw [← htwOfTable_ok hWord]
    exact Option.some.inj h
  | error e =>
    rw [hWord] at h
    cases h

/-- Settles O30: the placed word is the Host's first operation. -/
theorem fetchWordIsRunNext : Obligations.FetchWordIsRunNext := by
  unfold Obligations.FetchWordIsRunNext
  intro s nbits w i h
  have hWord := decode_fetchWordOf h
  have hStep : step (s.withFetchWord nbits w) = hostStep (setSchedule s.schedule (s.withFetchWord nbits w)) :=
    step_of_schedule (s := s.withFetchWord nbits w) (e := .host) rfl
  refine ⟨fetchWordOf nbits w, hWord, fun t ht => ?_, fun r hr => ?_⟩
  · rw [hStep]
    rw [← hWord] at ht
    exact hostStep_txn_next (s := setSchedule s.schedule (s.withFetchWord nbits w)) rfl ht
  · rw [hStep]
    rw [← hWord] at hr
    exact hostStep_txn_refused (s := setSchedule s.schedule (s.withFetchWord nbits w)) rfl hr

/-- `bz` with a last read goes to its target when the masked value is zero, and changes the Host's place alone. -/
theorem hostStep_bz {v mask : Data} {target : Nat} (hOp : s.hostProgram[s.hostPc]? = some (.bz target mask))
    (hLast : s.hostLast = some v) :
    hostStep s = .next (setHostPc (if v &&& mask = 0 then target else s.hostPc + 1) s) := by
  simp [hostStep, hOp, hostBranch, State.branchValue, State.takeBranchValue, hLast]

/-- `bnz` goes to its target when it is not. -/
theorem hostStep_bnz {v mask : Data} {target : Nat} (hOp : s.hostProgram[s.hostPc]? = some (.bnz target mask))
    (hLast : s.hostLast = some v) :
    hostStep s = .next (setHostPc (if v &&& mask = 0 then s.hostPc + 1 else target) s) := by
  by_cases hZero : v &&& mask = 0 <;>
    simp [hostStep, hOp, hostBranch, State.branchValue, State.takeBranchValue, hLast, hZero]

/-- Settles O31: the two branches on the state without the event. -/
theorem hostBranchesTestLastRead : Obligations.HostBranchesTestLastRead := by
  unfold Obligations.HostBranchesTestLastRead
  intro s rest v mask target hSched hLast
  rw [step_of_schedule hSched]
  exact ⟨fun hOp => hostStep_bz (s := setSchedule rest s) hOp hLast,
    fun hOp => hostStep_bnz (s := setSchedule rest s) hOp hLast⟩

/-! ### wait_idle (R93) -/

/-- The mask of `wait_idle` tests bit 0. -/
theorem and_one_eq_zero_iff (v : Data) : v &&& 0x0001 = 0 ↔ v.getLsbD 0 = false := by
  have hBit : v &&& 0x0001 = (BitVec.ofBool (v.getLsbD 0)).setWidth 16 := BitVec.and_one_eq_setWidth_ofBool_getLsbD
  rw [hBit]
  cases v.getLsbD 0 <;> decide

/-- `s` once the read of `wait_idle` is done, with `events` to come. -/
def statusRead (events : List Event) (s : State) : State :=
  { s with schedule := events, hostLast := some (regRead .status s), hostPc := s.hostPc + 1 }

/-- Bit 0 of STATUS is BUSY (R22, R23). -/
theorem status_busy (s : State) : (regRead .status s).getLsbD 0 = (s.seqState != 0) := by
  rw [regRead_status]
  exact (statusWord_getLsbD s).1

theorem step_statusRead (hSched : s.schedule = .host :: rest) (hOp : s.hostProgram[s.hostPc]? = some (Asm.rd .status)) :
    step s = .next (statusRead rest s) := by
  have hDecode : decode (htwOf false Reg.status.index 0x0000) = .rd .status := decode_read 1 0x0000
  rw [step_of_schedule hSched]
  exact hostStep_txn_next (s := setSchedule rest s) hOp (congrArg (exec · _) hDecode)

/-- The branch of `wait_idle` goes back to the read while BUSY = 1. -/
theorem step_branch_of_statusRead (hOp : s.hostProgram[s.hostPc + 1]? = some (Asm.bnz s.hostPc 0x0001)) :
    step (statusRead (.host :: rest) s) = .next { s with
      schedule := rest
      hostLast := some (regRead .status s)
      hostPc := if s.seqState = 0 then s.hostPc + 2 else s.hostPc } := by
  have hTest : regRead .status s &&& 0x0001 = 0 ↔ s.seqState = 0 := by
    rw [and_one_eq_zero_iff, status_busy, bne_eq_false_iff_eq]
  have hBranch := hostStep_bnz (s := statusRead rest s) hOp rfl
  simp only [hTest] at hBranch
  rw [step_of_schedule (s := statusRead (.host :: rest) s) rfl]
  exact hBranch

/-- Settles O32: a read of STATUS and a branch on its bit 0. -/
theorem waitIdleLoopsWhileBusy : Obligations.WaitIdleLoopsWhileBusy := by
  unfold Obligations.WaitIdleLoopsWhileBusy
  intro s rest before later hSched hProgram hPc
  have hRead : s.hostProgram[s.hostPc]? = some (Asm.rd .status) := by
    simp [hProgram, hPc, Asm.waitIdle]
  have hBranch : s.hostProgram[s.hostPc + 1]? = some (Asm.bnz s.hostPc 0x0001) := by
    simp [hProgram, hPc, Asm.waitIdle]
  exact ⟨regRead .status s, status_busy s,
    (core_run_succ 1 (step_statusRead hSched hRead)).trans (core_run_succ 0 (step_branch_of_statusRead hBranch))⟩

end Sys2Proof.Proofs
end
